-- ==== Sys2Proof/Word.lean ====
section
/-! DEFINITION. The widths of the engine's words (rules R10, R30, R60, R61). -/

namespace Sys2Proof

/-- One byte of a frame, a payload or a capture. -/
abbrev Byte := BitVec 8

/-- The control word `ctl[15:0]` of a request (R60). -/
abbrev Ctl := BitVec 16

/-- The operand bus `dat[135:0]` of a request (R60, R61). -/
abbrev Dat := BitVec 136

/-- A 24-bit device identity (R22). -/
abbrev DeviceId := BitVec 24

/-- A 16-bit command code (R73). -/
abbrev Command := BitVec 16

/-- A 17-byte frame as one 136-bit value, first byte most significant (R42, R70). -/
abbrev Frame := BitVec 136

/-- The 9-byte payload of a frame as one 72-bit value (R71). -/
abbrev Payload := BitVec 72

end Sys2Proof
end

