-- ==== Sys2Proof/Syntax.lean ====
section
/-! DEFINITION. The request words and the twenty operations of the engine (rules R60 to R62). -/

namespace Sys2Proof

/-- One request as the host presents it: the control word and the operand bus together (R41, R60). -/
structure Request where
  ctl : Ctl
  dat : Dat
  deriving DecidableEq, Repr

/-- The operations of rule R62, in the table's order, each with the operands of rule R61. The operations of
format S carry the explicit-counter bit `x` and the counter field `ctr` (R60). `raw` is the operand bus itself:
which of its low bits are the capture is the parameter `CAP_BITS`, 96 by default (R61, R120; log entry 6). -/
inductive Instr where
  /-- `CRC.INIT` (R93). -/
  | crcInit
  /-- `CRC.BYTE b` (R94). -/
  | crcByte (b : Byte)
  /-- `ALIGN raw` (R121). -/
  | align (raw : Dat)
  /-- `ENC id, cmd, k` (R101). -/
  | enc (id : DeviceId) (cmd : Command) (k : BitVec 8)
  /-- `DEC.CAP raw` (R122). -/
  | decCap (raw : Dat)
  /-- `DEC.PAY P` (R103). -/
  | decPay (p : Payload)
  /-- `DEC.FRM F` (R104). -/
  | decFrm (f : Frame)
  /-- `CFG idin` (R170). -/
  | cfg (idin : BitVec 32)
  /-- `PWR` (R134). -/
  | pwr (x : Bool) (ctr : BitVec 8)
  /-- `COOLER s` (R136). -/
  | cooler (st : BitVec 8) (x : Bool) (ctr : BitVec 8)
  /-- `WARMER s` (R137). -/
  | warmer (st : BitVec 8) (x : Bool) (ctr : BitVec 8)
  /-- `HIGHER s` (R138). -/
  | higher (st : BitVec 8) (x : Bool) (ctr : BitVec 8)
  /-- `LOWER s` (R139). -/
  | lower (st : BitVec 8) (x : Bool) (ctr : BitVec 8)
  /-- `RSET` (R135). -/
  | rset (x : Bool) (ctr : BitVec 8)
  /-- `LVL.LO.A L` (R153). -/
  | lvlLoA (l : BitVec 8) (x : Bool) (ctr : BitVec 8)
  /-- `LVL.HI.A L` (R154). -/
  | lvlHiA (l : BitVec 8) (x : Bool) (ctr : BitVec 8)
  /-- `LVL.LO.B L` (R155). -/
  | lvlLoB (l : BitVec 8) (x : Bool) (ctr : BitVec 8)
  /-- `LVL.HI.B L` (R156). -/
  | lvlHiB (l : BitVec 8) (x : Bool) (ctr : BitVec 8)
  /-- `SETC L` (R157). -/
  | setc (l : BitVec 8) (x : Bool) (ctr : BitVec 8)
  /-- `SETI L` (R158). -/
  | seti (l : BitVec 8) (x : Bool) (ctr : BitVec 8)
  deriving DecidableEq, Repr

/-- Is the operation of format S, a session operation (R60, R62)? -/
def Instr.isSession : Instr → Bool
  | .crcInit | .crcByte _ | .align _ | .enc _ _ _ | .decCap _ | .decPay _ | .decFrm _ | .cfg _ => false
  | .pwr _ _ | .cooler _ _ _ | .warmer _ _ _ | .higher _ _ _ | .lower _ _ _ | .rset _ _ => true
  | .lvlLoA _ _ _ | .lvlHiA _ _ _ | .lvlLoB _ _ _ | .lvlHiB _ _ _ | .setc _ _ _ | .seti _ _ _ => true

/-- The fields `x` and `ctr` of an operation of format S; `(false, 0)` for one of format N (R60). -/
def Instr.counter : Instr → Bool × BitVec 8
  | .crcInit | .crcByte _ | .align _ | .enc _ _ _ | .decCap _ | .decPay _ | .decFrm _ | .cfg _ => (false, 0)
  | .pwr x c | .rset x c => (x, c)
  | .cooler _ x c | .warmer _ x c | .higher _ x c | .lower _ x c => (x, c)
  | .lvlLoA _ x c | .lvlHiA _ x c | .lvlLoB _ x c | .lvlHiB _ x c | .setc _ x c | .seti _ x c => (x, c)

/-- The level of a composite operation, none for any other (R61). -/
def Instr.level : Instr → Option (BitVec 8)
  | .crcInit | .crcByte _ | .align _ | .enc _ _ _ | .decCap _ | .decPay _ | .decFrm _ | .cfg _ => none
  | .pwr _ _ | .cooler _ _ _ | .warmer _ _ _ | .higher _ _ _ | .lower _ _ _ | .rset _ _ => none
  | .lvlLoA l _ _ | .lvlHiA l _ _ | .lvlLoB l _ _ | .lvlHiB l _ _ | .setc l _ _ | .seti l _ _ => some l

/-- The byte an operation folds into the streaming checksum. -/
def Instr.crcData : Instr → Option Byte
  | .crcByte b => some b
  | .crcInit | .align _ | .enc _ _ _ | .decCap _ | .decPay _ | .decFrm _ | .cfg _ => none
  | .pwr _ _ | .cooler _ _ _ | .warmer _ _ _ | .higher _ _ _ | .lower _ _ _ | .rset _ _ => none
  | .lvlLoA _ _ _ | .lvlHiA _ _ _ | .lvlLoB _ _ _ | .lvlHiB _ _ _ | .setc _ _ _ | .seti _ _ _ => none

end Sys2Proof
end

