-- ==== Sys2Proof/WellFormed.lean ====
section
/-! DEFINITION. Which terms of `Instr` a request word can stand for. Every operand has its exact width, so one
check is left: rule R63, case (4). -/

namespace Sys2Proof

/-- R60: "`x = 0` means the engine numbers the frame or frames from `SEQ`, and then `ctr` must be 0". -/
abbrev counterOk (x : Bool) (ctr : BitVec 8) : Prop := x = false → ctr = 0

/-- A term that some request word encodes. -/
abbrev Instr.WellFormed (i : Instr) : Prop := counterOk i.counter.1 i.counter.2

end Sys2Proof
end

