-- ==== Sys2Proof/Decode.lean ====
section
/-! DEFINITION. The request decoder (rules R60 to R64), total on all 65536 control words and every operand bus,
and after it the encoder, written from the same tables. -/

namespace Sys2Proof

/-- Why a control word encodes no operation: the four cases of rule R63, in its order. -/
inductive DecodeError where
  /-- Case (1): `op` is one of the twelve reserved numbers. -/
  | reservedOp
  /-- Case (2): format N with a bit of `ctl[10:0]` set. -/
  | formatNBits
  /-- Case (3): format S with `ctl[9]` or `ctl[8]` set. -/
  | formatSBits
  /-- Case (4): format S, `x = 0` and `ctr` not 0. -/
  | counterWithoutX
  deriving DecidableEq, Repr

/-! ### Fields of the control word (R60) -/

/-- `op = ctl[15:11]`. -/
def ctlOp (ctl : Ctl) : BitVec 5 := ctl.extractLsb' 11 5

/-- `x = ctl[10]`. -/
def ctlX (ctl : Ctl) : Bool := ctl.getLsbD 10

/-- `ctr = ctl[7:0]`. -/
def ctlCtr (ctl : Ctl) : BitVec 8 := ctl.extractLsb' 0 8

/-- The tail of a word of format N: `ctl[10:0]` must be 0. -/
def formatN (ctl : Ctl) (i : Instr) : Except DecodeError Instr :=
  if ctl.extractLsb' 0 11 = 0 then .ok i else .error .formatNBits

/-- The tail of a word of format S: `ctl[9:8]` must be 0, and `ctr` must be 0 unless `x = 1` (R63). -/
def formatS (ctl : Ctl) (op : Bool → BitVec 8 → Instr) : Except DecodeError Instr :=
  if ctl.extractLsb' 8 2 ≠ 0 then .error .formatSBits
  else if ctlX ctl = false ∧ ctlCtr ctl ≠ 0 then .error .counterWithoutX
  else .ok (op (ctlX ctl) (ctlCtr ctl))

/-! ### Operands on the bus (R61): each in its low bits, the bits above ignored -/

/-- `dat[7:0]`: the byte of `CRC.BYTE`, a step or a level. -/
def datByte (dat : Dat) : BitVec 8 := dat.extractLsb' 0 8

/-- `dat[47:24]`: the device id of `ENC`. -/
def datEncId (dat : Dat) : DeviceId := dat.extractLsb' 24 24

/-- `dat[23:8]`: the command of `ENC`. -/
def datEncCmd (dat : Dat) : Command := dat.extractLsb' 8 16

/-- `dat[71:0]`: the payload of `DEC.PAY`. -/
def datPayload (dat : Dat) : Payload := dat.extractLsb' 0 72

/-- `dat[31:0]`: the device id of `CFG`. -/
def datIdin (dat : Dat) : BitVec 32 := dat.extractLsb' 0 32

/-! ### The decoder -/

/-- The decoder of rule R62 with the checks of rule R63. -/
def decode (r : Request) : Except DecodeError Instr :=
  match ctlOp r.ctl with
  | 0x01#5 => formatN r.ctl .crcInit
  | 0x02#5 => formatN r.ctl (.crcByte (datByte r.dat))
  | 0x03#5 => formatN r.ctl (.align r.dat)
  | 0x04#5 => formatN r.ctl (.enc (datEncId r.dat) (datEncCmd r.dat) (datByte r.dat))
  | 0x05#5 => formatN r.ctl (.decCap r.dat)
  | 0x06#5 => formatN r.ctl (.decPay (datPayload r.dat))
  | 0x07#5 => formatN r.ctl (.decFrm r.dat)
  | 0x08#5 => formatN r.ctl (.cfg (datIdin r.dat))
  | 0x11#5 => formatS r.ctl .pwr
  | 0x12#5 => formatS r.ctl (.cooler (datByte r.dat))
  | 0x13#5 => formatS r.ctl (.warmer (datByte r.dat))
  | 0x14#5 => formatS r.ctl (.higher (datByte r.dat))
  | 0x15#5 => formatS r.ctl (.lower (datByte r.dat))
  | 0x16#5 => formatS r.ctl .rset
  | 0x18#5 => formatS r.ctl (.lvlLoA (datByte r.dat))
  | 0x19#5 => formatS r.ctl (.lvlHiA (datByte r.dat))
  | 0x1A#5 => formatS r.ctl (.lvlLoB (datByte r.dat))
  | 0x1B#5 => formatS r.ctl (.lvlHiB (datByte r.dat))
  | 0x1C#5 => formatS r.ctl (.setc (datByte r.dat))
  | 0x1D#5 => formatS r.ctl (.seti (datByte r.dat))
  | _ => .error .reservedOp

/-! ### The encoder -/

/-- The operation number of rule R62. -/
def Instr.opNumber : Instr → BitVec 5
  | .crcInit => 0x01
  | .crcByte _ => 0x02
  | .align _ => 0x03
  | .enc _ _ _ => 0x04
  | .decCap _ => 0x05
  | .decPay _ => 0x06
  | .decFrm _ => 0x07
  | .cfg _ => 0x08
  | .pwr _ _ => 0x11
  | .cooler _ _ _ => 0x12
  | .warmer _ _ _ => 0x13
  | .higher _ _ _ => 0x14
  | .lower _ _ _ => 0x15
  | .rset _ _ => 0x16
  | .lvlLoA _ _ _ => 0x18
  | .lvlHiA _ _ _ => 0x19
  | .lvlLoB _ _ _ => 0x1A
  | .lvlHiB _ _ _ => 0x1B
  | .setc _ _ _ => 0x1C
  | .seti _ _ _ => 0x1D

/-- The operand bus of an operation: its operands packed as in rule R61, zeros above them. -/
def Instr.bus : Instr → Dat
  | .crcInit | .pwr _ _ | .rset _ _ => 0
  | .crcByte b => b.setWidth 136
  | .align raw | .decCap raw => raw
  | .enc id cmd k => (id ++ cmd ++ k).setWidth 136
  | .decPay p => p.setWidth 136
  | .decFrm f => f
  | .cfg idin => idin.setWidth 136
  | .cooler st _ _ | .warmer st _ _ | .higher st _ _ | .lower st _ _ => st.setWidth 136
  | .lvlLoA l _ _ | .lvlHiA l _ _ | .lvlLoB l _ _ | .lvlHiB l _ _ | .setc l _ _ | .seti l _ _ => l.setWidth 136

/-- The control word: `op`, then `x`, two zero bits and `ctr` (all 0 for format N), rule R60. -/
def Instr.ctlWord (i : Instr) : Ctl :=
  i.opNumber ++ BitVec.ofBool i.counter.1 ++ 0#2 ++ i.counter.2

/-- The request of a well-formed operation. -/
def encode (i : Instr) : Request := ⟨i.ctlWord, i.bus⟩

/-! ### The opcode table -/

/-- The `match` and `mask` columns of rule R62. -/
def Instr.tableRow : Instr → Ctl × Ctl
  | .crcInit => (0x0800, 0xFFFF)
  | .crcByte _ => (0x1000, 0xFFFF)
  | .align _ => (0x1800, 0xFFFF)
  | .enc _ _ _ => (0x2000, 0xFFFF)
  | .decCap _ => (0x2800, 0xFFFF)
  | .decPay _ => (0x3000, 0xFFFF)
  | .decFrm _ => (0x3800, 0xFFFF)
  | .cfg _ => (0x4000, 0xFFFF)
  | .pwr _ _ => (0x8800, 0xFB00)
  | .cooler _ _ _ => (0x9000, 0xFB00)
  | .warmer _ _ _ => (0x9800, 0xFB00)
  | .higher _ _ _ => (0xA000, 0xFB00)
  | .lower _ _ _ => (0xA800, 0xFB00)
  | .rset _ _ => (0xB000, 0xFB00)
  | .lvlLoA _ _ _ => (0xC000, 0xFB00)
  | .lvlHiA _ _ _ => (0xC800, 0xFB00)
  | .lvlLoB _ _ _ => (0xD000, 0xFB00)
  | .lvlHiB _ _ _ => (0xD800, 0xFB00)
  | .setc _ _ _ => (0xE000, 0xFB00)
  | .seti _ _ _ => (0xE800, 0xFB00)

/-- The request whose bits are the low `nbits` bits of `w`: `ctl` is the first word and `dat` counts on from it. -/
def requestOfWord (nbits w : Nat) : Request :=
  ⟨BitVec.ofNat 16 (w % 2 ^ nbits), BitVec.ofNat 136 ((w % 2 ^ nbits) >>> 16)⟩

/-- The instruction the decoder reads from a request whose bits are `w`, numbered as spec/opcode_table.json numbers
them; the operand bus is 0 above `nbits`. -/
def decodeTableWord (nbits w : Nat) : Option Instr := (decode (requestOfWord nbits w)).toOption

end Sys2Proof
end

