-- ==== Sys2Proof/Config.lean ====
section
/-! DEFINITION. The parameters of the engine (rule R10: "a model takes it as a configuration field") and the
values the spec leaves free. The constants of rule R10 stand in Machine/Constants.lean. -/

namespace Sys2Proof

/-- The two transceivers of rule R179, "selected by configuration": the real one, whose answers are free, and
the no-op stub, which answers 1 to everything. -/
inductive XcvrKind where
  | real
  | noop
  deriving DecidableEq, Repr

/-- The parameters of rule R10. A machine carries its own, so a claim over all states is a claim for every value
of them (R221, D18, D20; log entry 5). `T_DELAY` is timing only and has no field (R178; log entry 10). -/
structure Config where
  /-- `N_REPEAT`: how often `TX` writes one frame (R174). -/
  nRepeat : Nat
  /-- `CAP_BITS`: the width of a capture (R120). -/
  capBits : Nat
  /-- `LEAD_BITS`: stray bits before the payload of a capture (R72, R120). -/
  leadBits : Nat
  /-- `TRAIL_BITS`: stray bits after it. -/
  trailBits : Nat
  /-- `SEQ_RESET`: the counter after reset (R221). -/
  seqReset : BitVec 8
  /-- Which transceiver is attached (R179). -/
  xcvr : XcvrKind
  deriving DecidableEq, Repr

/-- The defaults of rule R10. The transceiver is the real one: its answers are free (R9). -/
def Config.default : Config where
  nRepeat := 20
  capBits := 96
  leadBits := 15
  trailBits := 9
  seqReset := 0
  xcvr := .real

/-- What the spec asks of the parameters: `N_REPEAT` is at least 1 (R174),
`CAP_BITS - LEAD_BITS - TRAIL_BITS = 72` (R120), and a capture fits the operand bus (R61). -/
abbrev Config.Wf (c : Config) : Prop :=
  1 ≤ c.nRepeat ∧ c.leadBits + 72 + c.trailBits = c.capBits ∧ c.capBits ≤ 136

/-- The transceiver's answer to its `n`-th call, where the state's own list of answers holds none: a free bit
(R9, R14, U10; log entry 2). It has no body, so nothing can be proved of it. -/
opaque Config.freeAnswer : Nat → Bool

/-- What the register `DID` holds after reset. The spec gives it no value and forbids choosing one (R31, R34), so
this constant has no body (log entry 4). -/
opaque Config.unsetDid : DeviceId

end Sys2Proof
end

