-- ==== Sys2Proof/Machine/Constants.lean ====
section
/-! DEFINITION. The constants of rule R10, "fixed by LBAR and may not be changed". -/

namespace Sys2Proof.Machine

/-- `CRC_POLY` (R90). -/
def crcPoly : BitVec 16 := 0x1021

/-- `CRC_INIT`, the initial register of the CRC16 Engine (R90, R97). -/
def crcInitValue : BitVec 16 := 0xFFFE

/-- `PREAMBLE`, the first 8 bytes of every frame (R70). -/
def preamble : BitVec 64 := 0x533914DD1C493412

/-- `SEPARATOR` (R70). -/
def separator : BitVec 8 := 0xFF

/-- `STEP_MAX`, the upper bound of the direct-step clamp (R131). -/
def stepMax : Int := 15

/-- `SAT_MAG`, the magnitude of a saturation frame, above the clamp and not clamped (R150, R160). -/
def satMag : Nat := 16

/-- `LEVEL_MAX` (R152). -/
def levelMax : Nat := 15

/-- `LEVEL_SPLIT`: levels below it are reached from the low extreme (R157, R158). -/
def levelSplit : Nat := 8

/-- The largest legal device id (R22, R171). -/
def idMax : Nat := 0xFFFFFF

end Sys2Proof.Machine
end

