-- ==== Sys2Proof/Machine/Crc16.lean ====
section
/-! DEFINITION. The CRC16 Engine's functions (rules R90 to R92) and the big-endian byte order they read a value in
(rules R13, R42). -/

namespace Sys2Proof.Machine

/-- `bytes_be(v, n)`: byte k of n is `v[8(n-k)-1 : 8(n-k-1)]`, the most significant byte first (R13). -/
def bytesBE (n : Nat) {w : Nat} (v : BitVec w) : List Byte :=
  (List.range n).map fun k => v.extractLsb' (8 * (n - 1 - k)) 8

/-- `crc_bit` of rule R91: one data bit into the register, the top bit first. -/
def crcBit (r : BitVec 16) (d : Bool) : BitVec 16 :=
  if r.getLsbD 15 ^^ d then (r <<< 1) ^^^ crcPoly else r <<< 1

/-- `crc_byte` of rule R91: the bits of the byte from 7 down to 0. -/
def crcByte (r : BitVec 16) (b : Byte) : BitVec 16 :=
  [7, 6, 5, 4, 3, 2, 1, 0].foldl (fun r i => crcBit r (b.getLsbD i)) r

/-- `crc16` of rule R92: the bytes in order from the initial register, nothing applied at the end. -/
def crc16 (bytes : List Byte) : BitVec 16 := bytes.foldl crcByte crcInitValue

end Sys2Proof.Machine
end

