-- ==== Sys2Proof/Machine/State.lean ====
section
/-! DEFINITION. The state of the engine and of the environment's part of a run (rules R20 to R36, R213, R215). -/

namespace Sys2Proof.Machine

/-- The seven errors a request can end with (R190), in the order of their codes. -/
inductive EngineError where
  /-- Code 1: `ctl` encodes no operation (R63). -/
  | illegalRequest
  /-- Code 2: the id given to `CFG` is above 0xFFFFFF (R171). -/
  | invalidDeviceId
  /-- Code 3: `XcvrInit` answered 0 (R173). -/
  | hardwareUnavailable
  /-- Code 4: a session operation with `SES = 0` (R132). -/
  | noSession
  /-- Code 5: `CFG` with `SES = 1` (R172). -/
  | sessionExists
  /-- Code 6: a level above 15 (R152). -/
  | invalidLevel
  /-- Code 7: at least one `XcvrWrite` of the request answered 0 (R175). -/
  | txWriteFault
  deriving DecidableEq, Repr

/-- One entry of `TXLOG`: the frame handed to `XcvrWrite` and the transceiver's answer (R29). -/
structure TxEntry where
  frame : Frame
  ok : Bool
  deriving DecidableEq, Repr

/-- The response record (R30). A field an operation does not set holds no value (R31), which is `none`. -/
structure Response where
  /-- `rsp.err`, set by every request. -/
  err : BitVec 4 := 0
  crc : Option (BitVec 16) := none
  payload : Option Payload := none
  id : Option DeviceId := none
  sep : Option Byte := none
  ctr : Option (BitVec 8) := none
  cmd : Option Command := none
  chk : Option (BitVec 16) := none
  valid : Option Bool := none
  preOk : Option Bool := none
  n : Option (BitVec 2) := none
  frame0 : Option Frame := none
  frame1 : Option Frame := none
  deriving DecidableEq, Repr

/-- What the host can do while the engine is idle (R213): present a request, or assert `rst`. -/
inductive Move where
  | request (r : Request)
  | rst
  deriving DecidableEq, Repr

/-- The engine stops with no fault: "the engine cannot hang or be stuck" (R215), and an error of the spec is a
response, not a stop (R195, R197). The type is empty, so no meaning can answer with one. Nobody raises it (safe). -/
inductive Fault where
  deriving DecidableEq, Repr

/-- Why a step has no meaning. -/
inductive Refusal where
  /-- Raised by an arm of `exec` whose instruction has no meaning yet; no arm does (safe). -/
  | notModelled (mnemonic : String)
  deriving DecidableEq, Repr

/-- The state. `ses` to `flt` are the five registers of rule R20; the two logs are those of rule R29; `responses`
holds the response record of rule R30 for every request answered since reset. The last three fields are the
environment's part of the run: what the host does next and what the transceiver answers (R9, R215). -/
structure State where
  /-- The parameters (R10); no step changes them (R33). -/
  cfg : Config
  /-- `SES`, 1 bit: a controller session exists (R21). -/
  ses : Bool
  /-- `DID`, 24 bits: the device identity of the session (R22); it means something only while `SES = 1`. -/
  did : DeviceId
  /-- `SEQ`, 8 bits: the counter the next auto-numbered frame will carry (R23). -/
  seq : BitVec 8
  /-- `CRC`, 16 bits: the streaming register (R24). -/
  crc : BitVec 16
  /-- `FLT`, 8 bits: bit n is set when a request has ended with error code n (R25). -/
  flt : BitVec 8
  /-- `TXLOG`, oldest first (R29). -/
  txLog : List TxEntry
  /-- `FRAMELOG`, one entry per `TX` call, oldest first (R29; log entry 8). -/
  frameLog : List Frame
  /-- The responses delivered since reset, oldest first (R47, R215; log entry 7). -/
  responses : List Response
  /-- What the host will do, next first (R8, R213; log entry 1). -/
  moves : List Move
  /-- What the transceiver will answer, next first; past its end the answers are `Config.freeAnswer` (log entry 2). -/
  answers : List Bool
  /-- How often the transceiver has been asked; it numbers the free answers (log entry 3). -/
  draws : Nat
  deriving DecidableEq, Repr

/-- The state after reset (R34, R220), with the default parameters and an idle environment. -/
def State.reset : State where
  cfg := Config.default
  ses := false
  did := Config.unsetDid
  seq := Config.default.seqReset
  crc := crcInitValue
  flt := 0
  txLog := []
  frameLog := []
  responses := []
  moves := []
  answers := []
  draws := 0

end Sys2Proof.Machine
end

