-- ==== Sys2Proof/Machine/Flags.lean ====
section
/-! DEFINITION. The one-bit results and the fault summary: `rsp.valid` and `rsp.pre_ok` (rules R27, R103, R104), the
error codes (rule R190) and the bits of `FLT` (rule R25). There are no condition codes (rule R27). -/

namespace Sys2Proof.Machine

/-- The code of an error in `rsp.err` (R190). -/
def EngineError.code : EngineError → BitVec 4
  | .illegalRequest => 1
  | .invalidDeviceId => 2
  | .hardwareUnavailable => 3
  | .noSession => 4
  | .sessionExists => 5
  | .invalidLevel => 6
  | .txWriteFault => 7

/-- The bit of `FLT` "whose number is that code" (R195). -/
def EngineError.faultBit (e : EngineError) : BitVec 8 := 1#8 <<< e.code.toNat

/-- `check(P)` of rule R103: the checksum recomputed over the constant preamble and the seven received bytes,
compared with the received one. -/
def check (p : Payload) : Bool :=
  crc16 (bytesBE 15 (preamble ++ p.extractLsb' 16 56)) == p.extractLsb' 0 16

/-- `rsp.pre_ok` of rule R104: the first 8 bytes of a frame equal `PREAMBLE`. -/
def preambleOk (f : Frame) : Bool := f.extractLsb' 72 64 == preamble

end Sys2Proof.Machine
end

