-- ==== Sys2Proof/Machine/Operands.lean ====
section
/-! DEFINITION. The operand forms of rule R64: the step and its clamp, the level, the device id of `CFG`, the counter
of a session operation, and the capture with its stray bits. -/

namespace Sys2Proof.Machine

/-- `clamp(s, lo, hi)` of rule R14. -/
def clamp (s lo hi : Int) : Int := if s < lo then lo else if hi < s then hi else s

/-- `mag(s)` of rule R131: the operand read as two's complement, clamped to [0, 15]. -/
def mag (st : BitVec 8) : Nat := (clamp st.toInt 0 stepMax).toNat

/-- The level of a composite operation is in [0, 15] (R152). -/
def levelOk (l : BitVec 8) : Bool := l.toNat ≤ levelMax

/-- The id given to `CFG` is in [0, 0xFFFFFF] (R171). -/
def idOk (idin : BitVec 32) : Bool := idin.toNat ≤ idMax

/-- The counter the first frame carries: `ctr` if `x = 1`, else `SEQ` (R64, R133, R151). -/
def counterOf (x : Bool) (ctr : BitVec 8) (s : State) : BitVec 8 := if x then ctr else s.seq

/-- The capture on the operand bus, `dat[CAP_BITS-1:0]`, "as one large big-endian integer" (R45, R61, R121). -/
def capture (c : Config) (raw : Dat) : Nat := raw.toNat % 2 ^ c.capBits

/-- `strip(raw)` of rule R121: `(raw >> TRAIL_BITS) mod 2^72`. -/
def strip (c : Config) (raw : Dat) : Payload := BitVec.ofNat 72 (capture c raw >>> c.trailBits)

end Sys2Proof.Machine
end

