-- ==== Sys2Proof/Machine/Ops.lean ====
section
/-! DEFINITION. The named operations every meaning is written with: the writes of the registers, the response, raising
an error, the transceiver primitives, `TX`, reset, taking the host's next move, and the status port. The engine
has no memory (rule R40), so there is no operation over one. -/

namespace Sys2Proof.Machine

/-- What a meaning answers. -/
abbrev Result := Host.Outcome State Fault Refusal

/-! ### Register writes (R20) -/

/-- `CRC <- v`. -/
def State.setCrc (s : State) (v : BitVec 16) : State := { s with crc := v }

/-- `SEQ <- v`. -/
def State.setSeq (s : State) (v : BitVec 8) : State := { s with seq := v }

/-- `DID <- id; SES <- 1`: a session is created (R170). -/
def State.openSession (s : State) (id : DeviceId) : State := { s with did := id, ses := true }

/-- The bit of an error is set in `FLT` and the others stay (R25). -/
def State.setFault (s : State) (e : EngineError) : State := { s with flt := s.flt ||| e.faultBit }

/-! ### Logs and the response -/

/-- One entry is appended to `TXLOG` (R29). -/
def State.logTx (s : State) (f : Frame) (ok : Bool) : State := { s with txLog := s.txLog ++ [⟨f, ok⟩] }

/-- One logical frame is appended to `FRAMELOG` (R29). -/
def State.logFrame (s : State) (f : Frame) : State := { s with frameLog := s.frameLog ++ [f] }

/-- The response of a request is delivered (R30, R47). -/
def State.deliver (s : State) (r : Response) : State := { s with responses := s.responses ++ [r] }

/-- The response record: that of the last request answered, no value before the first (R34). -/
def State.rsp (s : State) : Option Response := s.responses.getLast?

/-- A request that completes: `rsp.err <- 0` beside the fields it set (R190). -/
def complete (r : Response) (s : State) : State := s.deliver { r with err := 0 }

/-- `raise E` (R195): the request ends, the bit of `FLT` with the error's number is set, and the response carries the
error's code beside the fields `r` set before it. There is no handler, no saved state and nothing to return
from (R195, R197), so no return operation stands beside it. -/
def raise (e : EngineError) (r : Response) (s : State) : State := (s.setFault e).deliver { r with err := e.code }

/-- A request whose `ctl` encodes no operation (R63): IllegalRequest "without any other effect". -/
def illegalRequest (s : State) : State := raise .illegalRequest {} s

/-! ### The transceiver (R9, R14, R176) -/

/-- The answer the transceiver gives to the next call: 1 from the no-op stub (R179), else a free input. -/
def State.answer (s : State) : Bool :=
  match s.cfg.xcvr, s.answers with
  | .noop, _ => true
  | .real, a :: _ => a
  | .real, [] => Config.freeAnswer s.draws

/-- The transceiver has been asked once more. -/
def State.ask (s : State) : State := { s with answers := s.answers.tail, draws := s.draws + 1 }

/-- `XcvrInit()` (R173): the answer, and the state after the call. -/
def xcvrInit (s : State) : Bool × State := (s.answer, s.ask)

/-- `XcvrWrite(f)` (R14): the answer, and the state with `(f, answer)` appended to `TXLOG`. -/
def xcvrWrite (f : Frame) (s : State) : Bool × State := (s.answer, s.ask.logTx f s.answer)

/-- `n` writes of one frame; 1 when every one was answered 1, and none is left out after a 0 (R174). -/
def writes (f : Frame) : Nat → State → Bool × State
  | 0, s => (true, s)
  | n + 1, s =>
    let one := xcvrWrite f s
    let rest := writes f n one.2
    (one.1 && rest.1, rest.2)

/-- `TX(f)` (R174): `N_REPEAT` writes of the frame, one logical frame. -/
def tx (f : Frame) (s : State) : Bool × State :=
  let all := writes f s.cfg.nRepeat s
  (all.1, all.2.logFrame f)

/-! ### Reset and the host's moves -/

/-- `rst` while the engine is idle (R220): every register and log at its value of rule R34. The parameters and the
environment are not the engine's to reset, and the transceiver is not touched. -/
def applyReset (s : State) : State :=
  { State.reset with
    cfg := s.cfg, seq := s.cfg.seqReset, moves := s.moves, answers := s.answers, draws := s.draws }

/-- The host's next move, taken. -/
inductive Taken where
  /-- The host does nothing: the engine stays idle (R198, R209). -/
  | idle
  /-- `rst` is asserted. -/
  | rst (s : State)
  /-- A request is presented. -/
  | request (r : Request) (s : State)
  deriving DecidableEq, Repr

/-- The next move in presentation order, and the state without it (R8, R26). -/
def takeMove (s : State) : Taken :=
  match s.moves with
  | [] => .idle
  | .rst :: rest => .rst { s with moves := rest }
  | .request r :: rest => .request r { s with moves := rest }

/-- A request presented before every other move of the host. -/
def State.present (s : State) (r : Request) : State := { s with moves := .request r :: s.moves }

/-! ### The status port (R36) -/

/-- `ses_q`. -/
def State.sesQ (s : State) : BitVec 1 := BitVec.ofBool s.ses

/-- `did_q`, "no value while `SES = 0`". -/
def State.didQ (s : State) : Option DeviceId := if s.ses then some s.did else none

/-- `seq_q`. -/
def State.seqQ (s : State) : BitVec 8 := s.seq

/-- `crc_q`. -/
def State.crcQ (s : State) : BitVec 16 := s.crc

/-- `flt_q`. -/
def State.fltQ (s : State) : BitVec 8 := s.flt

end Sys2Proof.Machine
end

