-- ==== Sys2Proof/Machine/Codec.lean ====
section
/-! DEFINITION. The Packet Codec: the functions `frame` and `split` (rules R100, R103) and the operations `ENC`,
`DEC.PAY` and `DEC.FRM` (rules R101, R103, R104). -/

namespace Sys2Proof.Machine

/-- The 15 bytes a checksum covers: preamble, id, separator, counter, command (R100). -/
def message (id : DeviceId) (cmd : Command) (k : BitVec 8) : BitVec 120 :=
  preamble ++ id ++ separator ++ k ++ cmd

/-- `frame(id, cmd, k)` of rule R100. -/
def frame (id : DeviceId) (cmd : Command) (k : BitVec 8) : Frame :=
  message id cmd k ++ crc16 (bytesBE 15 (message id cmd k))

/-- `split(P)` and `check(P)` of rule R103, set in a response. -/
def decoded (p : Payload) (r : Response) : Response :=
  { r with
    id := some (p.extractLsb' 48 24)
    sep := some (p.extractLsb' 40 8)
    ctr := some (p.extractLsb' 32 8)
    cmd := some (p.extractLsb' 16 16)
    chk := some (p.extractLsb' 0 16)
    valid := some (check p) }

/-- `ENC id, cmd, k` (R101). -/
def execEnc (id : DeviceId) (cmd : Command) (k : BitVec 8) (s : State) : Result :=
  .next (complete { n := some 1, frame0 := some (frame id cmd k) } s)

/-- `DEC.PAY P` (R103). -/
def execDecPay (p : Payload) (s : State) : Result :=
  .next (complete (decoded p {}) s)

/-- `DEC.FRM F` (R104): the constant preamble enters the check, not the received one. -/
def execDecFrm (f : Frame) (s : State) : Result :=
  .next (complete (decoded (f.extractLsb' 0 72) { preOk := some (preambleOk f) }) s)

end Sys2Proof.Machine
end

