-- ==== Sys2Proof/Machine/Capture.lean ====
section
/-! DEFINITION. The Capture Decoder: `ALIGN` and `DEC.CAP` (rules R121, R122). -/

namespace Sys2Proof.Machine

/-- `ALIGN raw` (R121). -/
def execAlign (raw : Dat) (s : State) : Result :=
  .next (complete { payload := some (strip s.cfg raw) } s)

/-- `DEC.CAP raw` (R122). -/
def execDecCap (raw : Dat) (s : State) : Result :=
  .next (complete (decoded (strip s.cfg raw) { payload := some (strip s.cfg raw) }) s)

end Sys2Proof.Machine
end

