-- ==== Sys2Proof/Machine/Direct.lean ====
section
/-! DEFINITION. The Command Encoder, direct operations: the function `code` (rule R130), the procedure `send1`
(rule R133) and `PWR`, `RSET`, `COOLER`, `WARMER`, `HIGHER`, `LOWER` (rules R134 to R139). -/

namespace Sys2Proof.Machine

/-- The kinds of command code of rule R130. -/
inductive CodeKind where
  | toggle
  | reset
  | aUp
  | aDown
  | bUp
  | bDown
  deriving DecidableEq, Repr

/-- `code(kind, m)` of rule R130, in plain integers; the two fixed codes have no magnitude. -/
def code : CodeKind → Nat → Command
  | .toggle, _ => 0x0100
  | .reset, _ => 0x0600
  | .aUp, m => BitVec.ofNat 16 (0x0200 + m)
  | .aDown, m => BitVec.ofNat 16 (0x0300 - m)
  | .bUp, m => BitVec.ofNat 16 (0x0400 + m)
  | .bDown, m => BitVec.ofNat 16 (0x0500 - m)

/-- How a session operation ends once its frames are written: TxWriteFault when a write was answered 0, "after the
writes and the counter update" (R133, R151, R175). -/
def finish (ok : Bool) (r : Response) (s : State) : State :=
  if ok then complete r s else raise .txWriteFault r s

/-- `SEQ` after a session operation of `k` frames: advanced by `k` when `x = 0`, untouched when `x = 1` (R23). -/
def advance (x : Bool) (k : BitVec 8) (s : State) : State :=
  if x then s else s.setSeq (s.seq + k)

/-- `send1(c)` of rule R133. -/
def send1 (c : Command) (x : Bool) (ctr : BitVec 8) (s : State) : State :=
  if s.ses then
    let f := frame s.did c (counterOf x ctr s)
    let sent := tx f s
    finish sent.1 { n := some 1, frame0 := some f } (advance x 1 sent.2)
  else raise .noSession {} s

/-- `PWR` (R134). -/
def execPwr (x : Bool) (ctr : BitVec 8) (s : State) : Result := .next (send1 (code .toggle 0) x ctr s)

/-- `RSET` (R135). -/
def execRset (x : Bool) (ctr : BitVec 8) (s : State) : Result := .next (send1 (code .reset 0) x ctr s)

/-- `COOLER s` (R136). -/
def execCooler (st : BitVec 8) (x : Bool) (ctr : BitVec 8) (s : State) : Result :=
  .next (send1 (code .aUp (mag st)) x ctr s)

/-- `WARMER s` (R137). -/
def execWarmer (st : BitVec 8) (x : Bool) (ctr : BitVec 8) (s : State) : Result :=
  .next (send1 (code .aDown (mag st)) x ctr s)

/-- `HIGHER s` (R138). -/
def execHigher (st : BitVec 8) (x : Bool) (ctr : BitVec 8) (s : State) : Result :=
  .next (send1 (code .bUp (mag st)) x ctr s)

/-- `LOWER s` (R139). -/
def execLower (st : BitVec 8) (x : Bool) (ctr : BitVec 8) (s : State) : Result :=
  .next (send1 (code .bDown (mag st)) x ctr s)

end Sys2Proof.Machine
end

