-- ==== Sys2Proof/Machine/Composite.lean ====
section
/-! DEFINITION. The Command Encoder, composite absolute-level operations: the algorithms `from_low` and `from_high`
(rule R150), the procedure `send2` (rule R151) and `LVL.LO.A`, `LVL.HI.A`, `LVL.LO.B`, `LVL.HI.B`, `SETC`, `SETI`
(rules R153 to R158). -/

namespace Sys2Proof.Machine

/-- The two quantized dimensions: A is colour temperature, B is intensity (R140). -/
inductive Dimension where
  | A
  | B
  deriving DecidableEq, Repr

/-- The step-up kind of a dimension. -/
def Dimension.up : Dimension → CodeKind
  | .A => .aUp
  | .B => .bUp

/-- The step-down kind of a dimension. -/
def Dimension.down : Dimension → CodeKind
  | .A => .aDown
  | .B => .bDown

/-- `from_low(d, L)` of rule R150: step down by 16, then up by `L`. -/
def fromLow (d : Dimension) (l : BitVec 8) : Command × Command :=
  (code d.down satMag, code d.up l.toNat)

/-- `from_high(d, L)` of rule R150: step up by 16, then down by `15 - L`. -/
def fromHigh (d : Dimension) (l : BitVec 8) : Command × Command :=
  (code d.up satMag, code d.down (levelMax - l.toNat))

/-- The choice of `SETC` and `SETI`: from the low extreme when `L < 8`, else from the high one (R157, R158). -/
def fromNearer (d : Dimension) (l : BitVec 8) : Command × Command :=
  if l.toNat < levelSplit then fromLow d l else fromHigh d l

/-- `send2(c0, c1)` of rule R151, for the level `l`. -/
def send2 (c : Command × Command) (l : BitVec 8) (x : Bool) (ctr : BitVec 8) (s : State) : State :=
  if s.ses then
    if levelOk l then
      let k0 := counterOf x ctr s
      let f0 := frame s.did c.1 k0
      let f1 := frame s.did c.2 (k0 + 1)
      let sent0 := tx f0 s
      let sent1 := tx f1 sent0.2
      finish (sent0.1 && sent1.1) { n := some 2, frame0 := some f0, frame1 := some f1 } (advance x 2 sent1.2)
    else raise .invalidLevel {} s
  else raise .noSession {} s

/-- `LVL.LO.A L` (R153). -/
def execLvlLoA (l : BitVec 8) (x : Bool) (ctr : BitVec 8) (s : State) : Result :=
  .next (send2 (fromLow .A l) l x ctr s)

/-- `LVL.HI.A L` (R154). -/
def execLvlHiA (l : BitVec 8) (x : Bool) (ctr : BitVec 8) (s : State) : Result :=
  .next (send2 (fromHigh .A l) l x ctr s)

/-- `LVL.LO.B L` (R155). -/
def execLvlLoB (l : BitVec 8) (x : Bool) (ctr : BitVec 8) (s : State) : Result :=
  .next (send2 (fromLow .B l) l x ctr s)

/-- `LVL.HI.B L` (R156). -/
def execLvlHiB (l : BitVec 8) (x : Bool) (ctr : BitVec 8) (s : State) : Result :=
  .next (send2 (fromHigh .B l) l x ctr s)

/-- `SETC L` (R157), by the spec's reading of "symmetric" (D15). -/
def execSetc (l : BitVec 8) (x : Bool) (ctr : BitVec 8) (s : State) : Result :=
  .next (send2 (fromNearer .A l) l x ctr s)

/-- `SETI L` (R158). -/
def execSeti (l : BitVec 8) (x : Bool) (ctr : BitVec 8) (s : State) : Result :=
  .next (send2 (fromNearer .B l) l x ctr s)

end Sys2Proof.Machine
end

