-- ==== Sys2Proof/Machine/Crc.lean ====
section
/-! DEFINITION. The operations of the CRC16 Engine: `CRC.INIT` and `CRC.BYTE` (rules R93, R94). -/

namespace Sys2Proof.Machine

/-- `CRC.INIT` (R93). -/
def execCrcInit (s : State) : Result :=
  .next (complete { crc := some crcInitValue } (s.setCrc crcInitValue))

/-- `CRC.BYTE b` (R94). -/
def execCrcByte (b : Byte) (s : State) : Result :=
  .next (complete { crc := some (crcByte s.crc b) } (s.setCrc (crcByte s.crc b)))

end Sys2Proof.Machine
end

