-- ==== Sys2Proof/Machine/Session.lean ====
section
/-! DEFINITION. Session creation: `CFG` (rules R170 to R173). -/

namespace Sys2Proof.Machine

/-- `CFG idin`: the state check, the id check, then `XcvrInit()`, in this order (R170, R194). -/
def configure (idin : BitVec 32) (s : State) : State :=
  if s.ses then raise .sessionExists {} s
  else if idOk idin then
    let init := xcvrInit s
    if init.1 then complete {} (init.2.openSession (idin.extractLsb' 0 24))
    else raise .hardwareUnavailable {} init.2
  else raise .invalidDeviceId {} s

/-- `CFG idin` (R170). -/
def execCfg (idin : BitVec 32) (s : State) : Result := .next (configure idin s)

end Sys2Proof.Machine
end

