-- ==== Sys2Proof/Machine/Dispatch.lean ====
section
/-! DEFINITION. One arm per operation of rule R62. -/

namespace Sys2Proof.Machine

def exec (i : Instr) (s : State) : Host.Outcome State Fault Refusal :=
  match i with
  | .crcInit => Sys2Proof.Machine.execCrcInit s
  | .crcByte b => Sys2Proof.Machine.execCrcByte b s
  | .align raw => Sys2Proof.Machine.execAlign raw s
  | .enc id cmd k => Sys2Proof.Machine.execEnc id cmd k s
  | .decCap raw => Sys2Proof.Machine.execDecCap raw s
  | .decPay p => Sys2Proof.Machine.execDecPay p s
  | .decFrm f => Sys2Proof.Machine.execDecFrm f s
  | .cfg idin => Sys2Proof.Machine.execCfg idin s
  | .pwr x ctr => Sys2Proof.Machine.execPwr x ctr s
  | .cooler st x ctr => Sys2Proof.Machine.execCooler st x ctr s
  | .warmer st x ctr => Sys2Proof.Machine.execWarmer st x ctr s
  | .higher st x ctr => Sys2Proof.Machine.execHigher st x ctr s
  | .lower st x ctr => Sys2Proof.Machine.execLower st x ctr s
  | .rset x ctr => Sys2Proof.Machine.execRset x ctr s
  | .lvlLoA l x ctr => Sys2Proof.Machine.execLvlLoA l x ctr s
  | .lvlHiA l x ctr => Sys2Proof.Machine.execLvlHiA l x ctr s
  | .lvlLoB l x ctr => Sys2Proof.Machine.execLvlLoB l x ctr s
  | .lvlHiB l x ctr => Sys2Proof.Machine.execLvlHiB l x ctr s
  | .setc l x ctr => Sys2Proof.Machine.execSetc l x ctr s
  | .seti l x ctr => Sys2Proof.Machine.execSeti l x ctr s

end Sys2Proof.Machine
end

