-- ==== Sys2Proof/Machine/Step.lean ====
section
/-! DEFINITION. One step: the engine takes the host's next move (rules R8, R15, R41). -/

namespace Sys2Proof.Machine

/-- One request, executed to completion, or one reset; with no move of the host the engine stays idle. -/
def step (s : State) : Host.Outcome State Fault Refusal :=
  match takeMove s with
  | .idle => .next s
  | .rst s' => .next (applyReset s')
  | .request r s' =>
    match decode r with
    | .ok i => exec i s'
    | .error _ => .next (illegalRequest s')

/-- The request whose bits are `w` (spec/opcode_table.json's numbering; the operand bus is 0 above `nbits`), presented
as the host's next move. -/
def State.withFetchWord (s : State) (nbits w : Nat) : State := s.present (requestOfWord nbits w)

end Sys2Proof.Machine
end

