-- ==== Sys2Proof/Safety.lean ====
section
/-! DEFINITION. The terms the claims are stated in: what a refused request leaves, what a session operation leaves, the
fields each operation sets, and the invariants of the engine. "A model should carry `FLT = 0` as a premise of any
claim that the engine did what was asked" (rule R197): that premise is `NoFault`. -/

namespace Sys2Proof.Machine

/-- No fault has been recorded since reset (R197). -/
abbrev NoFault (s : State) : Prop := s.flt = 0

/-! ### One request -/

/-- `t` is `s` with one more response, and nothing else has changed. -/
def Answered (r : Response) (s t : State) : Prop := t = { s with responses := s.responses ++ [r] }

/-- `t` is `s` after a request refused with error code `n`: the bit `n` of `FLT` and the response, nothing else
(R195, R196). -/
def RefusedWith (n : Nat) (s t : State) : Prop :=
  t = { s with
    flt := s.flt ||| BitVec.twoPow 8 n
    responses := s.responses ++ [{ err := BitVec.ofNat 4 n }] }

/-- `t` is `s` after a session operation that sent the frames of `sent`, each with the transceiver's answers to its
writes (R133, R151, R174, R175). -/
structure Sent (sent : List (Frame × List Bool)) (x : Bool) (s t : State) : Prop where
  repetitions : ∀ p ∈ sent, p.2.length = s.cfg.nRepeat
  txLog : t.txLog = s.txLog ++ sent.flatMap fun p => p.2.map fun ok => ⟨p.1, ok⟩
  frameLog : t.frameLog = s.frameLog ++ sent.map Prod.fst
  seq : t.seq = if x then s.seq else s.seq + BitVec.ofNat 8 sent.length
  flt : t.flt = if sent.all (·.2.all (· == true)) then s.flt else s.flt ||| 0x80#8
  responses : t.responses = s.responses ++ [{
    err := if sent.all (·.2.all (· == true)) then 0 else 7
    n := some (BitVec.ofNat 2 sent.length)
    frame0 := sent[0]?.map Prod.fst
    frame1 := sent[1]?.map Prod.fst }]
  stub : s.cfg.xcvr = .noop → sent.all (·.2.all (· == true)) = true
  script : s.cfg.xcvr = .real → s.cfg.nRepeat * sent.length ≤ s.answers.length →
    sent.flatMap Prod.snd = s.answers.take (s.cfg.nRepeat * sent.length)
  asked : t.answers = s.answers.drop (s.cfg.nRepeat * sent.length) ∧
    t.draws = s.draws + s.cfg.nRepeat * sent.length
  rest : t.cfg = s.cfg ∧ t.ses = s.ses ∧ t.did = s.did ∧ t.crc = s.crc ∧ t.moves = s.moves

/-- The operation completes by sending one frame with the command `c`, numbered `ctr` when `x = 1` and `SEQ`
otherwise. -/
def SendsOne (i : Instr) (c : Command) (x : Bool) (ctr : BitVec 8) (s : State) : Prop :=
  ∃ t oks, exec i s = .next t ∧ Sent [(frame s.did c (if x then ctr else s.seq), oks)] x s t

/-- The operation completes by sending a frame with the command `c0` and then one with `c1`, on consecutive
counters. -/
def SendsTwo (i : Instr) (c0 c1 : Command) (x : Bool) (ctr : BitVec 8) (s : State) : Prop :=
  ∃ t oks0 oks1, exec i s = .next t ∧
    Sent [(frame s.did c0 (if x then ctr else s.seq), oks0),
      (frame s.did c1 ((if x then ctr else s.seq) + 1), oks1)] x s t

/-- How many low bits of the operand bus an operation reads (R61); a capture is `CAP_BITS` wide (R120). -/
def operandBits (c : Config) : Instr → Nat
  | .crcInit | .pwr _ _ | .rset _ _ => 0
  | .crcByte _ => 8
  | .align _ | .decCap _ => c.capBits
  | .enc _ _ _ => 48
  | .decPay _ => 72
  | .decFrm _ => 136
  | .cfg _ => 32
  | .cooler _ _ _ | .warmer _ _ _ | .higher _ _ _ | .lower _ _ _ => 8
  | .lvlLoA _ _ _ | .lvlHiA _ _ _ | .lvlLoB _ _ _ | .lvlHiB _ _ _ | .setc _ _ _ | .seti _ _ _ => 8

/-- The words of rule R62 less the illegal ones of rule R63, in the numbers of those rules. -/
abbrev LegalWord (ctl : Ctl) : Prop :=
  (1 ≤ ctl.toNat / 2048 ∧ ctl.toNat / 2048 ≤ 8 ∧ ctl.toNat % 2048 = 0) ∨
  ((0x11 ≤ ctl.toNat / 2048 ∧ ctl.toNat / 2048 ≤ 0x16 ∨ 0x18 ≤ ctl.toNat / 2048 ∧ ctl.toNat / 2048 ≤ 0x1D) ∧
    ctl.toNat / 256 % 4 = 0 ∧ (ctl.toNat / 1024 % 2 = 0 → ctl.toNat % 256 = 0))

/-! ### The fields of a response (R30) -/

/-- Which of the twelve fields beside `err` hold a value, in the order of rule R30. -/
def Response.fields (r : Response) : List Bool :=
  [r.crc.isSome, r.payload.isSome, r.id.isSome, r.sep.isSome, r.ctr.isSome, r.cmd.isSome, r.chk.isSome,
    r.valid.isSome, r.preOk.isSome, r.n.isSome, r.frame0.isSome, r.frame1.isSome]

/-- The names of the fields beside `err`, in the same order. -/
inductive Field where
  | crc | payload | id | sep | ctr | cmd | chk | valid | preOk | n | frame0 | frame1
  deriving DecidableEq, Repr

/-- All of them. -/
def Field.all : List Field := [.crc, .payload, .id, .sep, .ctr, .cmd, .chk, .valid, .preOk, .n, .frame0, .frame1]

/-- The fields an operation sets when `rsp.err = 0`, the second table of rule R30. -/
def fieldsSet : Instr → List Field
  | .crcInit | .crcByte _ => [.crc]
  | .align _ => [.payload]
  | .enc _ _ _ => [.n, .frame0]
  | .decPay _ => [.id, .sep, .ctr, .cmd, .chk, .valid]
  | .decCap _ => [.payload, .id, .sep, .ctr, .cmd, .chk, .valid]
  | .decFrm _ => [.preOk, .id, .sep, .ctr, .cmd, .chk, .valid]
  | .cfg _ => []
  | .pwr _ _ | .cooler _ _ _ | .warmer _ _ _ | .higher _ _ _ | .lower _ _ _ | .rset _ _ => [.n, .frame0]
  | .lvlLoA _ _ _ | .lvlHiA _ _ _ | .lvlLoB _ _ _ | .lvlHiB _ _ _ | .setc _ _ _ | .seti _ _ _ =>
    [.n, .frame0, .frame1]

/-- A response sets exactly the fields rule R30 gives the operation, all of its table when `err` is 0 or 7 and none but
`err` otherwise, and `n`, where it is set, is the number of frames in the response. -/
def ShapeOk (i : Instr) (r : Response) : Prop :=
  r.err.toNat ≤ 7 ∧
  (r.fields = Field.all.map fun f => decide ((r.err = 0 ∨ r.err = 7) ∧ f ∈ fieldsSet i)) ∧
  ∀ n, r.n = some n → n.toNat = r.frame0.toList.length + r.frame1.toList.length

/-! ### Runs -/

/-- The state after some operations one after the other; a stop ends the run (`none`). -/
def runOps : List Instr → State → Option State
  | [], s => some s
  | i :: rest, s =>
    match exec i s with
    | .next t => runOps rest t
    | .fault _ => none
    | .refused _ => none

/-! ### Invariants -/

/-- The 70 command codes a session operation can emit (R74). -/
def emittable (c : Command) : Bool :=
  c.toNat == 0x0100 || c.toNat == 0x0600 ||
  (0x0200 ≤ c.toNat && c.toNat ≤ 0x0210) || (0x02F0 ≤ c.toNat && c.toNat ≤ 0x0300) ||
  (0x0400 ≤ c.toNat && c.toNat ≤ 0x0410) || (0x04F0 ≤ c.toNat && c.toNat ≤ 0x0500)

/-- `FLT` records the errors of the responses since reset: bit 0 is 0, bit n is set exactly when some response had
error code n, and no response had a code above 7 (R25, R190). -/
def FaultsRecorded (s : State) : Prop :=
  s.flt.getLsbD 0 = false ∧ (∀ r ∈ s.responses, r.err.toNat ≤ 7) ∧
  ∀ n, 1 ≤ n → n ≤ 7 → (s.flt.getLsbD n = true ↔ ∃ r ∈ s.responses, r.err.toNat = n)

/-- `FLT = 0` exactly when every request since reset completed with `rsp.err = 0` (R190, R195, R197): the premise
`NoFault` says neither more nor less than that. -/
def NoFaultIffCompleted (s : State) : Prop := NoFault s ↔ ∀ r ∈ s.responses, r.err = 0

/-- `FLT[7]` is set exactly when a write in `TXLOG` was answered 0 (R175). -/
def WriteFaultsLogged (s : State) : Prop :=
  s.flt.getLsbD 7 = true ↔ ∃ e ∈ s.txLog, e.ok = false

/-- `TXLOG` is `FRAMELOG` with every frame written `N_REPEAT` times in a row (R29). -/
def LogRepeatsFrames (s : State) : Prop :=
  s.txLog.map TxEntry.frame = s.frameLog.flatMap fun f => List.replicate s.cfg.nRepeat f

/-- Every frame sent carries the identity of the session and one of the 70 codes of rule R74, and nothing is sent
without a session. -/
def FramesOfSession (s : State) : Prop :=
  (s.ses = false → s.frameLog = []) ∧
  ∀ f ∈ s.frameLog, ∃ c k, emittable c = true ∧ f = frame s.did c k

/-- A frame whose last two bytes are the CRC16 of the fifteen before them (R102). -/
def ChecksumOk (f : Frame) : Prop := crc16 (bytesBE 15 (f.extractLsb' 16 120)) = f.extractLsb' 0 16

/-- Every frame in a response or in `TXLOG` is a value of `frame` and satisfies the checksum invariant (R102). -/
def FramesChecked (s : State) : Prop :=
  (∀ r ∈ s.responses, ∀ f, r.frame0 = some f ∨ r.frame1 = some f →
    ChecksumOk f ∧ ∃ id c k, f = frame id c k) ∧
  ∀ e ∈ s.txLog, ChecksumOk e.frame ∧ ∃ id c k, e.frame = frame id c k

end Sys2Proof.Machine
end

