-- ==== Sys2Proof/Certificates/Slice0/Obligations.lean ====
section
/-! DEFINITION. The statements for the provers, from the numbered rules of the spec. -/

open Sys2Proof Sys2Proof.Machine

/-! ### Requests: decoding, encoding, the step -/

/-- The request words of rule R66's examples, and one word of each other family, decode to the operation they stand
for. -/
def Obligations.RequestWordsDecode : Prop :=
  decode ⟨0xE800, 0x08⟩ = .ok (.seti 8 false 0) ∧
  decode ⟨0xEC20, 0x08⟩ = .ok (.seti 8 true 0x20) ∧
  decode ⟨0xA800, 0xFD⟩ = .ok (.lower 0xFD false 0) ∧
  decode ⟨0x2000, 0xABCDEF010072⟩ = .ok (.enc 0xABCDEF 0x0100 0x72) ∧
  decode ⟨0x4000, 0x00ABCDEF⟩ = .ok (.cfg 0xABCDEF) ∧
  decode ⟨0x1000, 0x53⟩ = .ok (.crcByte 0x53) ∧
  decode ⟨0x3000, 0xabcdefff720100fad4⟩ = .ok (.decPay 0xabcdefff720100fad4) ∧
  decode ⟨0x1800, 0xffff579bdffee40201f5a9ff⟩ = .ok (.align 0xffff579bdffee40201f5a9ff) ∧
  decode ⟨0x8C00, 0⟩ = .ok (.pwr true 0)

/-- The match and mask columns of rule R62: a word `w` with `(w and mask) = match` selects the row's operation, with the
counter fields of rule R60 and the operand in the low bits of the bus that rule R61 lists; for format S "subject to the
further check of rule R63". -/
def Obligations.TableRowsSelectTheirOperations : Prop :=
  ∀ (ctl : Ctl) (dat : Dat),
    let x := ctl.toNat / 1024 % 2 == 1
    let ctr := BitVec.ofNat 8 ctl.toNat
    let byte := BitVec.ofNat 8 dat.toNat
    (ctl &&& 0xFFFF = 0x0800 → decode ⟨ctl, dat⟩ = .ok .crcInit) ∧
    (ctl &&& 0xFFFF = 0x1000 → decode ⟨ctl, dat⟩ = .ok (.crcByte byte)) ∧
    (ctl &&& 0xFFFF = 0x1800 → decode ⟨ctl, dat⟩ = .ok (.align dat)) ∧
    (ctl &&& 0xFFFF = 0x2000 → decode ⟨ctl, dat⟩ =
      .ok (.enc (BitVec.ofNat 24 (dat.toNat / 2 ^ 24)) (BitVec.ofNat 16 (dat.toNat / 2 ^ 8)) byte)) ∧
    (ctl &&& 0xFFFF = 0x2800 → decode ⟨ctl, dat⟩ = .ok (.decCap dat)) ∧
    (ctl &&& 0xFFFF = 0x3000 → decode ⟨ctl, dat⟩ = .ok (.decPay (BitVec.ofNat 72 dat.toNat))) ∧
    (ctl &&& 0xFFFF = 0x3800 → decode ⟨ctl, dat⟩ = .ok (.decFrm dat)) ∧
    (ctl &&& 0xFFFF = 0x4000 → decode ⟨ctl, dat⟩ = .ok (.cfg (BitVec.ofNat 32 dat.toNat))) ∧
    (counterOk x ctr →
      (ctl &&& 0xFB00 = 0x8800 → decode ⟨ctl, dat⟩ = .ok (.pwr x ctr)) ∧
      (ctl &&& 0xFB00 = 0x9000 → decode ⟨ctl, dat⟩ = .ok (.cooler byte x ctr)) ∧
      (ctl &&& 0xFB00 = 0x9800 → decode ⟨ctl, dat⟩ = .ok (.warmer byte x ctr)) ∧
      (ctl &&& 0xFB00 = 0xA000 → decode ⟨ctl, dat⟩ = .ok (.higher byte x ctr)) ∧
      (ctl &&& 0xFB00 = 0xA800 → decode ⟨ctl, dat⟩ = .ok (.lower byte x ctr)) ∧
      (ctl &&& 0xFB00 = 0xB000 → decode ⟨ctl, dat⟩ = .ok (.rset x ctr)) ∧
      (ctl &&& 0xFB00 = 0xC000 → decode ⟨ctl, dat⟩ = .ok (.lvlLoA byte x ctr)) ∧
      (ctl &&& 0xFB00 = 0xC800 → decode ⟨ctl, dat⟩ = .ok (.lvlHiA byte x ctr)) ∧
      (ctl &&& 0xFB00 = 0xD000 → decode ⟨ctl, dat⟩ = .ok (.lvlLoB byte x ctr)) ∧
      (ctl &&& 0xFB00 = 0xD800 → decode ⟨ctl, dat⟩ = .ok (.lvlHiB byte x ctr)) ∧
      (ctl &&& 0xFB00 = 0xE000 → decode ⟨ctl, dat⟩ = .ok (.setc byte x ctr)) ∧
      (ctl &&& 0xFB00 = 0xE800 → decode ⟨ctl, dat⟩ = .ok (.seti byte x ctr)))

/-- Decoding the request of a well-formed operation gives the operation back, for all twenty operations and every
value of every operand (R60 to R62). -/
def Obligations.DecodeOfEncodeIsTheOperation : Prop :=
  ∀ i : Instr, i.WellFormed → decode (encode i) = .ok i

/-- What the decoder accepts is well-formed and encodes back to the same control word, and to the same operand in the
low bits of the bus: no bit of a request that means anything is dropped (R60 to R63). -/
def Obligations.DecodeDropsNoBit : Prop :=
  ∀ (r : Request) (i : Instr), decode r = .ok i →
    i.WellFormed ∧ (encode i).ctl = r.ctl ∧
    ∀ j, j < operandBits Config.default i → (encode i).dat.getLsbD j = r.dat.getLsbD j

/-- A control word is legal exactly when it decodes, and a request with an illegal one ends with IllegalRequest
without any other effect, whatever the state (R63). -/
def Obligations.IllegalWordsAreRefused : Prop :=
  (∀ r : Request, (∃ i, decode r = .ok i) ↔ LegalWord r.ctl) ∧
  ¬ LegalWord 0 ∧
  ∀ (s : State) (r : Request), ¬ LegalWord r.ctl →
    ∃ t, step (s.present r) = .next t ∧ RefusedWith 1 s t

/-- "Bits above the operand are ignored (any value, no effect)" (R61): two requests with one control word that agree
on the operand lead to one and the same state. -/
def Obligations.BitsAboveTheOperandHaveNoEffect : Prop :=
  ∀ (s : State) (ctl : Ctl) (dat dat' : Dat) (i : Instr), decode ⟨ctl, dat⟩ = .ok i →
    (∀ j, j < operandBits s.cfg i → dat.getLsbD j = dat'.getLsbD j) →
    step (s.present ⟨ctl, dat⟩) = step (s.present ⟨ctl, dat'⟩)

/-- A step takes the host's next move: a request that decodes to `i`, which is then well-formed, runs `exec i` on the
state without that move, `withFetchWord` presents such a request, and with no move the engine stays idle (R8, R41; log entry 1). -/
def Obligations.StepRunsTheDecodedRequest : Prop :=
  (∀ (s : State) (r : Request) (rest : List Move) (i : Instr), s.moves = .request r :: rest → decode r = .ok i →
    i.WellFormed ∧ step s = exec i { s with moves := rest }) ∧
  (∀ (s : State) (nbits w : Nat) (i : Instr), decodeTableWord nbits w = some i →
    step (s.withFetchWord nbits w) = exec i s) ∧
  ∀ s : State, s.moves = [] → step s = .next s

/-- "The engine cannot hang or be stuck" (R215): every step of every state answers a next state. -/
def Obligations.EveryStepAnswers : Prop := ∀ s : State, ∃ t, step s = .next t

/-! ### The CRC16 Engine -/

/-- `CRC.INIT` loads 0xFFFE and answers it, and changes nothing else (R93). -/
def Obligations.CrcInitLoadsTheInitialRegister : Prop :=
  ∀ s : State, ∃ t, exec .crcInit s = .next t ∧ t.crc = 0xFFFE ∧
    Answered { crc := some 0xFFFE } { s with crc := 0xFFFE } t

/-- The byte-at-a-time form of rule R91: `r xor (b << 8)`, then eight conditional shifts. -/
def shiftEight (r : BitVec 16) : Nat → BitVec 16
  | 0 => r
  | n + 1 => shiftEight (if r.getLsbD 15 then (r <<< 1) ^^^ 0x1021#16 else r <<< 1) n

/-- `CRC.BYTE b` folds the byte into the register by the equivalent form of rule R91, answers the new value, and
changes nothing else (R91, R94). -/
def Obligations.CrcByteFoldsTheByte : Prop :=
  ∀ (s : State) (b : Byte), ∃ t v, v = shiftEight (s.crc ^^^ (b.setWidth 16 <<< 8)) 8 ∧
    exec (.crcByte b) s = .next t ∧ t.crc = v ∧ Answered { crc := some v } { s with crc := v } t

/-- Streaming equals the function (R95): after `CRC.INIT` and any operations among which no `CRC.INIT`, `CRC` is
`crc16` of the bytes folded; `crc16` of a concatenation folds on; after the preamble the value is 0xDE39, from which
the checksum of a frame is folded over its seven bytes id, separator, counter, command. -/
def Obligations.StreamingEqualsTheFunction : Prop :=
  (∀ (s : State) (is : List Instr), .crcInit ∉ is →
    ∃ t, runOps (.crcInit :: is) s = some t ∧ t.crc = crc16 (is.filterMap Instr.crcData)) ∧
  (∀ u v : List Byte, crc16 (u ++ v) = v.foldl crcByte (crc16 u)) ∧
  crc16 [0x53, 0x39, 0x14, 0xDD, 0x1C, 0x49, 0x34, 0x12] = 0xDE39 ∧
  ∀ (id : DeviceId) (cmd : Command) (k : BitVec 8),
    (frame id cmd k).extractLsb' 0 16 =
      (bytesBE 3 id ++ [0xFF, k] ++ bytesBE 2 cmd).foldl crcByte 0xDE39

/-- Residue (R96): a message followed by its own checksum has checksum 0, and so has every frame. -/
def Obligations.MessageWithChecksumHasResidueZero : Prop :=
  (∀ u : List Byte, crc16 (u ++ bytesBE 2 (crc16 u)) = 0) ∧
  ∀ (id : DeviceId) (cmd : Command) (k : BitVec 8), crc16 (bytesBE 17 (frame id cmd k)) = 0

/-- "The register value after the last byte" is touched by two operations only (R24): every other operation leaves
`CRC` as it is, and what it does does not depend on it. -/
def Obligations.OnlyCrcOperationsTouchTheRegister : Prop :=
  ∀ (i : Instr) (s t : State) (v : BitVec 16), i ≠ .crcInit → i.crcData = none → exec i s = .next t →
    t.crc = s.crc ∧ exec i { s with crc := v } = .next { t with crc := v }

/-! ### The Packet Codec -/

/-- `ENC` answers the seventeen bytes of rule R70 in order, the last two the CRC16 of the first fifteen, and changes
nothing else (R101). -/
def Obligations.EncBuildsTheFrame : Prop :=
  ∀ (s : State) (i0 i1 i2 k c0 c1 : Byte), ∃ t f h l,
    exec (.enc (i0 ++ i1 ++ i2) (c0 ++ c1) k) s = .next t ∧
    Answered { n := some 1, frame0 := some f } s t ∧
    bytesBE 17 f =
      [0x53, 0x39, 0x14, 0xDD, 0x1C, 0x49, 0x34, 0x12, i0, i1, i2, 0xFF, k, c0, c1, h, l] ∧
    h ++ l = crc16 [0x53, 0x39, 0x14, 0xDD, 0x1C, 0x49, 0x34, 0x12, i0, i1, i2, 0xFF, k, c0, c1]

/-- The fields of a frame stand in the bits of rule R70, and two different triples give two different frames
(R100). -/
def Obligations.FrameLayoutIsInjective : Prop :=
  (∀ (id : DeviceId) (cmd : Command) (k : BitVec 8),
    (frame id cmd k).extractLsb' 72 64 = 0x533914DD1C493412#64 ∧
    (frame id cmd k).extractLsb' 48 24 = id ∧
    (frame id cmd k).extractLsb' 40 8 = 0xFF#8 ∧
    (frame id cmd k).extractLsb' 32 8 = k ∧
    (frame id cmd k).extractLsb' 16 16 = cmd ∧
    (frame id cmd k).extractLsb' 0 16 = crc16 (bytesBE 15 ((frame id cmd k).extractLsb' 16 120))) ∧
  ∀ (id id' : DeviceId) (cmd cmd' : Command) (k k' : BitVec 8),
    frame id cmd k = frame id' cmd' k' → id = id' ∧ cmd = cmd' ∧ k = k'

/-- The response of a decode of the payload bytes `b0` to `b8` (R71, R103), beside the fields of `r`. -/
def decodeResponse (b0 b1 b2 b3 b4 b5 b6 b7 b8 : Byte) (r : Response) : Response :=
  { r with
    id := some (b0 ++ b1 ++ b2)
    sep := some b3
    ctr := some b4
    cmd := some (b5 ++ b6)
    chk := some (b7 ++ b8)
    valid := some
      (crc16 [0x53, 0x39, 0x14, 0xDD, 0x1C, 0x49, 0x34, 0x12, b0, b1, b2, b3, b4, b5, b6] == b7 ++ b8) }

/-- `DEC.PAY` answers the five fields of the nine bytes and whether the checksum over the constant preamble and the
first seven, the received separator among them, equals the last two, and changes nothing else (R71, R103, R106). -/
def Obligations.DecPaySplitsAndChecks : Prop :=
  ∀ (s : State) (b0 b1 b2 b3 b4 b5 b6 b7 b8 : Byte), ∃ t,
    exec (.decPay (b0 ++ b1 ++ b2 ++ b3 ++ b4 ++ b5 ++ b6 ++ b7 ++ b8)) s = .next t ∧
    Answered (decodeResponse b0 b1 b2 b3 b4 b5 b6 b7 b8 {}) s t

/-- `DEC.FRM` answers beside them whether the first eight bytes are the preamble, and the constant preamble, not the
received one, enters the check (R104). -/
def Obligations.DecFrmSplitsAndChecks : Prop :=
  ∀ (s : State) (p : BitVec 64) (b0 b1 b2 b3 b4 b5 b6 b7 b8 : Byte), ∃ t,
    exec (.decFrm (p ++ b0 ++ b1 ++ b2 ++ b3 ++ b4 ++ b5 ++ b6 ++ b7 ++ b8)) s = .next t ∧
    Answered (decodeResponse b0 b1 b2 b3 b4 b5 b6 b7 b8 { preOk := some (p == 0x533914DD1C493412#64) }) s t

/-- "A frame is exactly a value of `frame` if and only if `pre_ok = 1`, `valid = 1` and `sep = 0xFF`" (R104), of the
response `DEC.FRM` gives. -/
def Obligations.WellFormedFramesAreRecognised : Prop :=
  ∀ (s : State) (f : Frame), ∃ t r, exec (.decFrm f) s = .next t ∧ Answered r s t ∧
    ((∃ id cmd k, f = frame id cmd k) ↔ r.preOk = some true ∧ r.valid = some true ∧ r.sep = some 0xFF)

/-- Round trip (R105): `DEC.FRM` of a frame, and `DEC.PAY` of its payload, answer the fields it was built from, with
`valid = 1`. -/
def Obligations.DecodeOfEncRoundTrip : Prop :=
  ∀ (s : State) (id : DeviceId) (cmd : Command) (k : BitVec 8),
    let fields : Response :=
      { id := some id, sep := some 0xFF, ctr := some k, cmd := some cmd,
        chk := some (crc16 (bytesBE 15 ((frame id cmd k).extractLsb' 16 120))), valid := some true }
    (∃ t, exec (.decFrm (frame id cmd k)) s = .next t ∧ Answered { fields with preOk := some true } s t) ∧
    ∃ t, exec (.decPay ((frame id cmd k).extractLsb' 0 72)) s = .next t ∧ Answered fields s t

/-- Checksum corruption (R107): a non-zero change `d` of the checksum bits of a payload that decodes as valid makes it
decode as not valid, with the same id, separator, counter and command, and with the checksum changed by `d`. -/
def Obligations.ChecksumCorruptionIsDetected : Prop :=
  ∀ (s t : State) (p : Payload) (r : Response) (d : BitVec 16), d ≠ 0 →
    exec (.decPay p) s = .next t → Answered r s t → r.valid = some true →
    ∃ t', exec (.decPay (p ^^^ d.setWidth 72)) s = .next t' ∧
      Answered { r with valid := some false, chk := r.chk.map (· ^^^ d) } s t'

/-- A checksum mismatch is not an error (R108, R193): a decode completes on every operand with `rsp.err = 0` and every
field of its table set, `valid` the comparison of the recomputed checksum with the decoded one, and changes no register,
log or fault bit, whatever that comparison finds. -/
def Obligations.DecodingNeverFails : Prop :=
  ∀ (s : State) (i : Instr), (∃ p, i = .decPay p) ∨ (∃ f, i = .decFrm f) ∨ (∃ raw, i = .decCap raw) →
    ∃ t r, exec i s = .next t ∧ Answered r s t ∧ r.err = 0 ∧ ShapeOk i r ∧
      ∃ id sep ctr cmd chk, r.id = some id ∧ r.sep = some sep ∧ r.ctr = some ctr ∧ r.cmd = some cmd ∧
        r.chk = some chk ∧
        r.valid = some (crc16 (bytesBE 15 (0x533914DD1C493412#64 ++ id ++ sep ++ ctr ++ cmd)) == chk)

/-! ### The Capture Decoder -/

/-- The default strip counts of rule R120, which the vectors of the spec use. -/
def defaultStrip (c : Config) : Prop := c.capBits = 96 ∧ c.leadBits = 15 ∧ c.trailBits = 9

/-- `ALIGN` with the default counts: "byte k of the payload is made of the low bit of capture byte k+1 and the high
seven bits of capture byte k+2", whatever stands above the capture on the bus; nothing else changes (R121). -/
def Obligations.AlignStripsTheStrayBits : Prop :=
  ∀ (s : State) (junk : BitVec 40) (c0 c1 c2 c3 c4 c5 c6 c7 c8 c9 c10 c11 : Byte), defaultStrip s.cfg →
    ∃ t p, exec (.align (junk ++ c0 ++ c1 ++ c2 ++ c3 ++ c4 ++ c5 ++ c6 ++ c7 ++ c8 ++ c9 ++ c10 ++ c11)) s = .next t ∧
      Answered { payload := some p } s t ∧
      bytesBE 9 p =
        [c1 <<< 7 ||| c2 >>> 1, c2 <<< 7 ||| c3 >>> 1, c3 <<< 7 ||| c4 >>> 1, c4 <<< 7 ||| c5 >>> 1,
          c5 <<< 7 ||| c6 >>> 1, c6 <<< 7 ||| c7 >>> 1, c7 <<< 7 ||| c8 >>> 1, c8 <<< 7 ||| c9 >>> 1,
          c9 <<< 7 ||| c10 >>> 1]

/-- Capture stripping (R123): for every payload `p`, every leading part `a` and every trailing part `b`, `ALIGN` of
`a ‖ p ‖ b` answers `p`, and `DEC.CAP` answers `p` beside everything `DEC.PAY p` answers. Here for every legal choice
of the three counts (R120), with anything (`u`) above the capture. -/
def Obligations.CaptureDecodesAsItsPayload : Prop :=
  ∀ (s : State) (raw : Dat) (p : Payload) (u a b : Nat), s.cfg.Wf →
    a < 2 ^ s.cfg.leadBits → b < 2 ^ s.cfg.trailBits →
    raw.toNat = ((u * 2 ^ s.cfg.leadBits + a) * 2 ^ 72 + p.toNat) * 2 ^ s.cfg.trailBits + b →
    (∃ t, exec (.align raw) s = .next t ∧ Answered { payload := some p } s t) ∧
    ∃ t t' r, exec (.decCap raw) s = .next t ∧ exec (.decPay p) s = .next t' ∧
      Answered r s t' ∧ Answered { r with payload := some p } s t

/-- The operations that need no session change no register but `CRC` and ask the transceiver nothing, and what they
answer depends on neither the session, the counter, the fault bits nor any log (R35, R125). -/
def Obligations.CodecIsIndependentOfTheSession : Prop :=
  ∀ (i : Instr) (s s' : State), i.isSession = false → (∀ idin, i ≠ .cfg idin) → s'.cfg = s.cfg → s'.crc = s.crc →
    ∃ r c t t', exec i s = .next t ∧ exec i s' = .next t' ∧
      Answered r { s with crc := c } t ∧ Answered r { s' with crc := c } t'

/-! ### Session creation -/

/-- `CFG` (R170, R171, R172, R194): refused with SessionExists when `SES = 1`, else with InvalidDeviceId when the id
is above 0xFFFFFF, both before any transceiver activity; else `XcvrInit` is asked once, and on its answer the session
is created with the id, or the request ends with HardwareUnavailable and `SES` and `DID` as they were. -/
def Obligations.CfgCreatesTheSession : Prop :=
  ∀ (s : State) (idin : BitVec 32), ∃ t, exec (.cfg idin) s = .next t ∧
    if s.ses = true then RefusedWith 5 s t
    else if 0xFFFFFF < idin.toNat then RefusedWith 2 s t
    else
      let asked : State := { s with answers := s.answers.drop 1, draws := s.draws + 1 }
      if s.answer = true then
        t.ses = true ∧ t.did.toNat = idin.toNat ∧ Answered {} { asked with ses := true, did := t.did } t
      else RefusedWith 3 asked t

/-- `CFG` with a legal id creates the session whenever there is none and the transceiver initialises. -/
def Obligations.CfgCompletes : Prop :=
  ∀ (s : State) (idin : BitVec 32), s.ses = false → idin.toNat ≤ 0xFFFFFF → s.answer = true →
    ∃ t, exec (.cfg idin) s = .next t ∧ t.ses = true ∧ t.did.toNat = idin.toNat ∧ t.seq = s.seq ∧
      t.crc = s.crc ∧ t.flt = s.flt ∧ t.txLog = s.txLog ∧ t.responses = s.responses ++ [{ err := 0 }]

/-- `SES` goes from 0 to 1 only by a successful `CFG` and from 1 to 0 only by reset (R21). -/
def Obligations.SessionBeginsByCfgAndEndsByReset : Prop :=
  ∀ s t : State, step s = .next t →
    (s.ses = false → t.ses = true →
      ∃ r rest idin, s.moves = .request r :: rest ∧ decode r = .ok (.cfg idin) ∧ idin.toNat ≤ 0xFFFFFF ∧
        s.answer = true ∧ t.did.toNat = idin.toNat) ∧
    (s.ses = true → t.ses = false → ∃ rest, s.moves = .rst :: rest) ∧
    (∀ rest, s.moves = .rst :: rest → t.ses = false)

/-- The device identity is "immutable once a controller session is created" (R22): while `SES = 1` no step but reset
writes `DID`, and while `SES = 0` only a successful `CFG` does. -/
def Obligations.DeviceIdentityIsImmutable : Prop :=
  ∀ s t : State, step s = .next t → (∀ rest, s.moves ≠ .rst :: rest) →
    (s.ses = true → t.did = s.did) ∧ (t.ses = false → t.did = s.did)

/-! ### Session operations -/

/-- The magnitude of a direct step by the last words of rule R131: 0x00 to 0x0F itself, 0x10 to 0x7F 15, 0x80 to 0xFF
0. -/
def stepMagnitude (st : BitVec 8) : Nat :=
  if st.toNat ≤ 0x0F then st.toNat else if st.toNat ≤ 0x7F then 15 else 0

/-- With a session, each direct operation completes for every operand: it sends one frame with the command of rule R73
and the clamped step, `N_REPEAT` times, advances `SEQ` by one when `x = 0`, and changes nothing else but what a write
answered 0 leaves (R130 to R139, R174). That an explicit counter leaves `SEQ` alone is the spec's decision D9, and
what a failed write leaves is its decision D19. -/
def Obligations.DirectOperationsSendOneFrame : Prop :=
  ∀ (s : State) (st : BitVec 8) (x : Bool) (ctr : BitVec 8), s.ses = true →
    SendsOne (.pwr x ctr) 0x0100 x ctr s ∧
    SendsOne (.rset x ctr) 0x0600 x ctr s ∧
    SendsOne (.cooler st x ctr) (BitVec.ofNat 16 (0x0200 + stepMagnitude st)) x ctr s ∧
    SendsOne (.warmer st x ctr) (BitVec.ofNat 16 (0x0300 - stepMagnitude st)) x ctr s ∧
    SendsOne (.higher st x ctr) (BitVec.ofNat 16 (0x0400 + stepMagnitude st)) x ctr s ∧
    SendsOne (.lower st x ctr) (BitVec.ofNat 16 (0x0500 - stepMagnitude st)) x ctr s

/-- With a session and a level in [0, 15], each `LVL` operation completes: it sends the saturation frame of magnitude
16 and then the step frame of its algorithm, on consecutive counters, and advances `SEQ` by two when `x = 0` (R150 to
R156). D9 and D19 as for the direct operations. -/
def Obligations.LevelOperationsSaturateThenStep : Prop :=
  ∀ (s : State) (l : BitVec 8) (x : Bool) (ctr : BitVec 8), s.ses = true → l.toNat ≤ 15 →
    SendsTwo (.lvlLoA l x ctr) 0x02F0 (BitVec.ofNat 16 (0x0200 + l.toNat)) x ctr s ∧
    SendsTwo (.lvlHiA l x ctr) 0x0210 (BitVec.ofNat 16 (0x02F1 + l.toNat)) x ctr s ∧
    SendsTwo (.lvlLoB l x ctr) 0x04F0 (BitVec.ofNat 16 (0x0400 + l.toNat)) x ctr s ∧
    SendsTwo (.lvlHiB l x ctr) 0x0410 (BitVec.ofNat 16 (0x04F1 + l.toNat)) x ctr s

/-- `SETI` completes with the pair of codes that the table of rule R159 lists for its level. -/
def Obligations.SetIntensitySendsItsPair : Prop :=
  ∀ (s : State) (l : BitVec 8) (x : Bool) (ctr : BitVec 8), s.ses = true → l.toNat ≤ 15 →
    SendsTwo (.seti l x ctr) (if l.toNat ≤ 7 then 0x04F0 else 0x0410)
      ([0x0400, 0x0401, 0x0402, 0x0403, 0x0404, 0x0405, 0x0406, 0x0407, 0x04F9, 0x04FA, 0x04FB, 0x04FC, 0x04FD,
        0x04FE, 0x04FF, 0x0500].getD l.toNat 0) x ctr s

/-- `SETC` completes with the pair of codes that the table lists for its level; the pairing rests on the spec's
reading of "symmetric" (its decision D15, marked INFERRED). -/
def Obligations.SetColorSendsItsPair : Prop :=
  ∀ (s : State) (l : BitVec 8) (x : Bool) (ctr : BitVec 8), s.ses = true → l.toNat ≤ 15 →
    SendsTwo (.setc l x ctr) (if l.toNat ≤ 7 then 0x02F0 else 0x0210)
      ([0x0200, 0x0201, 0x0202, 0x0203, 0x0204, 0x0205, 0x0206, 0x0207, 0x02F9, 0x02FA, 0x02FB, 0x02FC, 0x02FD,
        0x02FE, 0x02FF, 0x0300].getD l.toNat 0) x ctr s

/-- "Every session operation, direct or composite, first tests `SES`" (R132): without a session each of the twelve,
whatever its operand, raises NoSession, nothing is transmitted and `SEQ` is unchanged. -/
def Obligations.SessionOperationsNeedASession : Prop :=
  ∀ (s : State) (i : Instr), i.isSession = true → s.ses = false →
    ∃ t, exec i s = .next t ∧ RefusedWith 4 s t

/-- A composite operation refuses exactly the levels above 15 (R152): with a session such a request raises
InvalidLevel, nothing is transmitted and `SEQ` is unchanged; and a level in [0, 15] is never refused so. -/
def Obligations.LevelsAboveFifteenAreRefused : Prop :=
  ∀ (s : State) (i : Instr) (l : BitVec 8), i.level = some l → s.ses = true →
    ∃ t, exec i s = .next t ∧ (15 < l.toNat → RefusedWith 6 s t) ∧
      (l.toNat ≤ 15 → ¬ RefusedWith 6 s t)

/-- Consecutive counters (R234): the two frames of every composite request that is not refused carry `C` and `C + 1`
modulo 256, `C` the explicit counter or `SEQ`; so a request that starts at 255 carries 255 and 0. -/
def Obligations.CompositeFramesHaveConsecutiveCounters : Prop :=
  ∀ (s t : State) (i : Instr) (l : BitVec 8), i.level = some l → s.ses = true → l.toNat ≤ 15 →
    exec i s = .next t →
    ∃ f0 f1 : Frame, t.frameLog = s.frameLog ++ [f0, f1] ∧
      (f0.extractLsb' 32 8).toNat = (if i.counter.1 = true then i.counter.2 else s.seq).toNat ∧
      (f1.extractLsb' 32 8).toNat = ((f0.extractLsb' 32 8).toNat + 1) % 256

/-- The saturation magnitude is not clamped and the direct steps are (R160, R233): the first frame of a composite
request carries one of the four saturation codes, and no frame of a direct request, and no second frame, does. For
`SETC` it rests on the spec's decision D15. -/
def Obligations.SaturationCodesOnlyLeadComposites : Prop :=
  ∀ (s t : State) (i : Instr), i.isSession = true → s.ses = true → exec i s = .next t →
    let saturation (f : Frame) : Prop := (f.extractLsb' 16 16).toNat ∈ [0x02F0, 0x0210, 0x04F0, 0x0410]
    (i.level = none → ∃ f, t.frameLog = s.frameLog ++ [f] ∧ ¬ saturation f) ∧
    ∀ l, i.level = some l → l.toNat ≤ 15 →
      ∃ f0 f1, t.frameLog = s.frameLog ++ [f0, f1] ∧ saturation f0 ∧ ¬ saturation f1

/-- The no-op transceiver (R179) answers 1 to everything: with it no step ends in HardwareUnavailable or
TxWriteFault. -/
def Obligations.NoopTransceiverNeverFails : Prop :=
  ∀ s t : State, s.cfg.xcvr = .noop → step s = .next t → (∀ rest, s.moves ≠ .rst :: rest) →
    ∀ r, t.responses = s.responses ++ [r] → r.err ≠ 3 ∧ r.err ≠ 7

/-! ### Errors, responses, order -/

/-- A request that ends in an error other than TxWriteFault changes no register but `FLT`, whose bit with the error's
number it sets, and writes nothing to the transceiver (R195, R196). -/
def Obligations.RefusedRequestsLeaveOnlyTheirFaultBit : Prop :=
  ∀ (s t : State) (q : Request) (rest : List Move) (r : Response),
    s.moves = .request q :: rest → step s = .next t → t.responses = s.responses ++ [r] →
    r.err ≠ 0 → r.err ≠ 7 →
    t.ses = s.ses ∧ t.did = s.did ∧ t.seq = s.seq ∧ t.crc = s.crc ∧ t.txLog = s.txLog ∧ t.frameLog = s.frameLog ∧
    t.flt = s.flt ||| BitVec.twoPow 8 r.err.toNat ∧ r = { err := r.err } ∧
    (r.err ≠ 3 → t.answers = s.answers ∧ t.draws = s.draws)

/-- "A field an operation does not set holds no value" (R30): every request is answered by one response, with exactly
the fields of rule R30's table set when `rsp.err` is 0 or 7 and none but `err` otherwise. -/
def Obligations.ResponsesHaveTheFieldsOfTheTable : Prop :=
  (∀ (i : Instr) (s t : State), exec i s = .next t → ∃ r, t.responses = s.responses ++ [r] ∧ ShapeOk i r) ∧
  ∀ (q : Request) (s t : State), step (s.present q) = .next t → ∃ r, t.responses = s.responses ++ [r] ∧
    ((∃ i, decode q = .ok i ∧ ShapeOk i r) ∨ (∃ e, decode q = .error e) ∧ r = { err := 1 })

/-- The order of a run (R47): a request delivers exactly one response, after those before it, and every log only grows
at its end; the parameters stay, and the host's other moves with them. -/
def Obligations.RequestsAreAnsweredInOrder : Prop :=
  ∀ (s t : State) (q : Request) (rest : List Move), s.moves = .request q :: rest → step s = .next t →
    (∃ r, t.responses = s.responses ++ [r] ∧ t.rsp = some r) ∧ s.txLog <+: t.txLog ∧ s.frameLog <+: t.frameLog ∧
    s.draws ≤ t.draws ∧ t.cfg = s.cfg ∧ t.moves = rest

/-- No operation reads `FLT` (R25): with other fault bits every operation does the same, and sets the same bits. -/
def Obligations.NoOperationReadsTheFaultBits : Prop :=
  ∀ (i : Instr) (s t : State) (v : BitVec 8), exec i s = .next t →
    ∃ set : BitVec 8, t.flt = s.flt ||| set ∧
      exec i { s with flt := v } = .next { t with flt := v ||| set }

/-- That `FLT = 0` means exactly that every request since reset has completed with `rsp.err = 0` (R195, R197) holds at
reset, and every step keeps it: a request that ends in an error sets a bit, and one that completes sets none. -/
def Obligations.NoFaultMeansEveryRequestCompleted : Prop :=
  NoFaultIffCompleted State.reset ∧
  ∀ s t : State, NoFaultIffCompleted s → step s = .next t → NoFaultIffCompleted t

/-! ### Reset -/

/-- Reset (R220): asserting `rst` while the engine is idle puts the five registers, `TXLOG` and the response record at
the values of rule R34, `DID` without a value on the status port, and asks the transceiver nothing; and no other step
ends a session, clears a bit of `FLT` or changes the identity of a session. The other clauses are the model's own
choices: `FRAMELOG` and the list of responses are emptied (log entries 8 and 7), the transceiver's answers to come and
the count of its calls stay (log entries 2 and 3), and so do the host's later moves (log entry 1). -/
def Obligations.ResetRestoresTheStatedValues : Prop :=
  (∀ (s : State) (rest : List Move), s.moves = .rst :: rest → ∃ t, step s = .next t ∧
    t.ses = false ∧ t.didQ = none ∧ t.seq = s.cfg.seqReset ∧ t.crc = 0xFFFE ∧ t.flt = 0 ∧
    t.txLog = [] ∧ t.frameLog = [] ∧ t.rsp = none ∧ t.responses = [] ∧
    t.answers = s.answers ∧ t.draws = s.draws ∧ t.cfg = s.cfg ∧ t.moves = rest) ∧
  ∀ s t : State, step s = .next t → (∀ rest, s.moves ≠ .rst :: rest) →
    s.flt &&& t.flt = s.flt ∧ (s.ses = true → t.ses = true ∧ t.did = s.did)

/-- The state the machine starts in: the values of rule R34 with the default parameters of rule R10, and nothing
presented (log entries 1, 4 and 5 name what the model chose beside them). -/
def Obligations.StartStateIsTheResetState : Prop :=
  State.reset.ses = false ∧ State.reset.didQ = none ∧ State.reset.seq = 0 ∧ State.reset.crc = 0xFFFE ∧
  State.reset.flt = 0 ∧ State.reset.txLog = [] ∧ State.reset.frameLog = [] ∧ State.reset.rsp = none ∧
  State.reset.cfg = ⟨20, 96, 15, 9, 0, .real⟩ ∧ State.reset.cfg.Wf ∧ State.reset.moves = []

/-- The status port mirrors the five registers, `did_q` with no value while `SES = 0` (R36). -/
def Obligations.StatusPortMirrorsTheRegisters : Prop :=
  ∀ s : State, s.sesQ.toNat = (if s.ses = true then 1 else 0) ∧
    s.didQ = (if s.ses = true then some s.did else none) ∧ s.seqQ = s.seq ∧ s.crcQ = s.crc ∧ s.fltQ = s.flt

/-- The invariants hold in the state the machine starts in. -/
def Obligations.InvariantsHoldAtReset : Prop :=
  FaultsRecorded State.reset ∧ WriteFaultsLogged State.reset ∧ LogRepeatsFrames State.reset ∧
  FramesOfSession State.reset ∧ FramesChecked State.reset

/-! ### Invariants -/

/-- Every step keeps `FLT` the record of the errors since reset (R25). -/
def Obligations.StepKeepsFaultsRecorded : Prop :=
  ∀ s t : State, FaultsRecorded s → step s = .next t → FaultsRecorded t

/-- Between resets no fault bit is ever cleared (R25, R197). -/
def Obligations.FaultBitsAreSticky : Prop :=
  ∀ (s t : State) (n : Nat), step s = .next t → (∀ rest, s.moves ≠ .rst :: rest) →
    s.flt.getLsbD n = true → t.flt.getLsbD n = true

/-- Every step keeps `FLT[7]` set exactly when a write in `TXLOG` was answered 0 (R175; the spec's decision D19). -/
def Obligations.StepKeepsWriteFaultsLogged : Prop :=
  ∀ s t : State, WriteFaultsLogged s → step s = .next t → WriteFaultsLogged t

/-- Every step keeps `TXLOG` equal to `FRAMELOG` with each frame repeated `N_REPEAT` times (R29, R174). -/
def Obligations.StepKeepsLogRepeatsFrames : Prop :=
  ∀ s t : State, LogRepeatsFrames s → step s = .next t → LogRepeatsFrames t

/-- Every step keeps it true that all frames sent carry the session's identity and one of the 70 codes of rule R74,
and that nothing is sent without a session. -/
def Obligations.StepKeepsFramesOfSession : Prop :=
  ∀ s t : State, FramesOfSession s → step s = .next t → FramesOfSession t

/-- Every step keeps the checksum invariant of every frame in a response or in `TXLOG` (R102). -/
def Obligations.StepKeepsFramesChecked : Prop :=
  ∀ s t : State, FramesChecked s → step s = .next t → FramesChecked t
end

