-- ==== Sys2Proof/Laws/State.lean ====
section
/-! SUPPORT. One lemma per field per update of the state: what an update writes, and that it leaves every other field
as it was. -/

namespace Sys2Proof.Machine

variable (s : State)

@[simp] theorem State.setCrc_cfg (v : BitVec 16) : (s.setCrc v).cfg = s.cfg := rfl
@[simp] theorem State.setCrc_ses (v : BitVec 16) : (s.setCrc v).ses = s.ses := rfl
@[simp] theorem State.setCrc_did (v : BitVec 16) : (s.setCrc v).did = s.did := rfl
@[simp] theorem State.setCrc_seq (v : BitVec 16) : (s.setCrc v).seq = s.seq := rfl
@[simp] theorem State.setCrc_crc (v : BitVec 16) : (s.setCrc v).crc = v := rfl
@[simp] theorem State.setCrc_flt (v : BitVec 16) : (s.setCrc v).flt = s.flt := rfl
@[simp] theorem State.setCrc_txLog (v : BitVec 16) : (s.setCrc v).txLog = s.txLog := rfl
@[simp] theorem State.setCrc_frameLog (v : BitVec 16) : (s.setCrc v).frameLog = s.frameLog := rfl
@[simp] theorem State.setCrc_responses (v : BitVec 16) : (s.setCrc v).responses = s.responses := rfl
@[simp] theorem State.setCrc_moves (v : BitVec 16) : (s.setCrc v).moves = s.moves := rfl
@[simp] theorem State.setCrc_answers (v : BitVec 16) : (s.setCrc v).answers = s.answers := rfl
@[simp] theorem State.setCrc_draws (v : BitVec 16) : (s.setCrc v).draws = s.draws := rfl

@[simp] theorem State.setSeq_cfg (v : BitVec 8) : (s.setSeq v).cfg = s.cfg := rfl
@[simp] theorem State.setSeq_ses (v : BitVec 8) : (s.setSeq v).ses = s.ses := rfl
@[simp] theorem State.setSeq_did (v : BitVec 8) : (s.setSeq v).did = s.did := rfl
@[simp] theorem State.setSeq_seq (v : BitVec 8) : (s.setSeq v).seq = v := rfl
@[simp] theorem State.setSeq_crc (v : BitVec 8) : (s.setSeq v).crc = s.crc := rfl
@[simp] theorem State.setSeq_flt (v : BitVec 8) : (s.setSeq v).flt = s.flt := rfl
@[simp] theorem State.setSeq_txLog (v : BitVec 8) : (s.setSeq v).txLog = s.txLog := rfl
@[simp] theorem State.setSeq_frameLog (v : BitVec 8) : (s.setSeq v).frameLog = s.frameLog := rfl
@[simp] theorem State.setSeq_responses (v : BitVec 8) : (s.setSeq v).responses = s.responses := rfl
@[simp] theorem State.setSeq_moves (v : BitVec 8) : (s.setSeq v).moves = s.moves := rfl
@[simp] theorem State.setSeq_answers (v : BitVec 8) : (s.setSeq v).answers = s.answers := rfl
@[simp] theorem State.setSeq_draws (v : BitVec 8) : (s.setSeq v).draws = s.draws := rfl

@[simp] theorem State.openSession_cfg (id : DeviceId) : (s.openSession id).cfg = s.cfg := rfl
@[simp] theorem State.openSession_ses (id : DeviceId) : (s.openSession id).ses = true := rfl
@[simp] theorem State.openSession_did (id : DeviceId) : (s.openSession id).did = id := rfl
@[simp] theorem State.openSession_seq (id : DeviceId) : (s.openSession id).seq = s.seq := rfl
@[simp] theorem State.openSession_crc (id : DeviceId) : (s.openSession id).crc = s.crc := rfl
@[simp] theorem State.openSession_flt (id : DeviceId) : (s.openSession id).flt = s.flt := rfl
@[simp] theorem State.openSession_txLog (id : DeviceId) : (s.openSession id).txLog = s.txLog := rfl
@[simp] theorem State.openSession_frameLog (id : DeviceId) : (s.openSession id).frameLog = s.frameLog := rfl
@[simp] theorem State.openSession_responses (id : DeviceId) : (s.openSession id).responses = s.responses := rfl
@[simp] theorem State.openSession_moves (id : DeviceId) : (s.openSession id).moves = s.moves := rfl
@[simp] theorem State.openSession_answers (id : DeviceId) : (s.openSession id).answers = s.answers := rfl
@[simp] theorem State.openSession_draws (id : DeviceId) : (s.openSession id).draws = s.draws := rfl

@[simp] theorem State.setFault_cfg (e : EngineError) : (s.setFault e).cfg = s.cfg := rfl
@[simp] theorem State.setFault_ses (e : EngineError) : (s.setFault e).ses = s.ses := rfl
@[simp] theorem State.setFault_did (e : EngineError) : (s.setFault e).did = s.did := rfl
@[simp] theorem State.setFault_seq (e : EngineError) : (s.setFault e).seq = s.seq := rfl
@[simp] theorem State.setFault_crc (e : EngineError) : (s.setFault e).crc = s.crc := rfl
@[simp] theorem State.setFault_flt (e : EngineError) : (s.setFault e).flt = s.flt ||| e.faultBit := rfl
@[simp] theorem State.setFault_txLog (e : EngineError) : (s.setFault e).txLog = s.txLog := rfl
@[simp] theorem State.setFault_frameLog (e : EngineError) : (s.setFault e).frameLog = s.frameLog := rfl
@[simp] theorem State.setFault_responses (e : EngineError) : (s.setFault e).responses = s.responses := rfl
@[simp] theorem State.setFault_moves (e : EngineError) : (s.setFault e).moves = s.moves := rfl
@[simp] theorem State.setFault_answers (e : EngineError) : (s.setFault e).answers = s.answers := rfl
@[simp] theorem State.setFault_draws (e : EngineError) : (s.setFault e).draws = s.draws := rfl

@[simp] theorem State.logTx_cfg (f : Frame) (ok : Bool) : (s.logTx f ok).cfg = s.cfg := rfl
@[simp] theorem State.logTx_ses (f : Frame) (ok : Bool) : (s.logTx f ok).ses = s.ses := rfl
@[simp] theorem State.logTx_did (f : Frame) (ok : Bool) : (s.logTx f ok).did = s.did := rfl
@[simp] theorem State.logTx_seq (f : Frame) (ok : Bool) : (s.logTx f ok).seq = s.seq := rfl
@[simp] theorem State.logTx_crc (f : Frame) (ok : Bool) : (s.logTx f ok).crc = s.crc := rfl
@[simp] theorem State.logTx_flt (f : Frame) (ok : Bool) : (s.logTx f ok).flt = s.flt := rfl
@[simp] theorem State.logTx_txLog (f : Frame) (ok : Bool) : (s.logTx f ok).txLog = s.txLog ++ [⟨f, ok⟩] := rfl
@[simp] theorem State.logTx_frameLog (f : Frame) (ok : Bool) : (s.logTx f ok).frameLog = s.frameLog := rfl
@[simp] theorem State.logTx_responses (f : Frame) (ok : Bool) : (s.logTx f ok).responses = s.responses := rfl
@[simp] theorem State.logTx_moves (f : Frame) (ok : Bool) : (s.logTx f ok).moves = s.moves := rfl
@[simp] theorem State.logTx_answers (f : Frame) (ok : Bool) : (s.logTx f ok).answers = s.answers := rfl
@[simp] theorem State.logTx_draws (f : Frame) (ok : Bool) : (s.logTx f ok).draws = s.draws := rfl

@[simp] theorem State.logFrame_cfg (f : Frame) : (s.logFrame f).cfg = s.cfg := rfl
@[simp] theorem State.logFrame_ses (f : Frame) : (s.logFrame f).ses = s.ses := rfl
@[simp] theorem State.logFrame_did (f : Frame) : (s.logFrame f).did = s.did := rfl
@[simp] theorem State.logFrame_seq (f : Frame) : (s.logFrame f).seq = s.seq := rfl
@[simp] theorem State.logFrame_crc (f : Frame) : (s.logFrame f).crc = s.crc := rfl
@[simp] theorem State.logFrame_flt (f : Frame) : (s.logFrame f).flt = s.flt := rfl
@[simp] theorem State.logFrame_txLog (f : Frame) : (s.logFrame f).txLog = s.txLog := rfl
@[simp] theorem State.logFrame_frameLog (f : Frame) : (s.logFrame f).frameLog = s.frameLog ++ [f] := rfl
@[simp] theorem State.logFrame_responses (f : Frame) : (s.logFrame f).responses = s.responses := rfl
@[simp] theorem State.logFrame_moves (f : Frame) : (s.logFrame f).moves = s.moves := rfl
@[simp] theorem State.logFrame_answers (f : Frame) : (s.logFrame f).answers = s.answers := rfl
@[simp] theorem State.logFrame_draws (f : Frame) : (s.logFrame f).draws = s.draws := rfl

@[simp] theorem State.deliver_cfg (r : Response) : (s.deliver r).cfg = s.cfg := rfl
@[simp] theorem State.deliver_ses (r : Response) : (s.deliver r).ses = s.ses := rfl
@[simp] theorem State.deliver_did (r : Response) : (s.deliver r).did = s.did := rfl
@[simp] theorem State.deliver_seq (r : Response) : (s.deliver r).seq = s.seq := rfl
@[simp] theorem State.deliver_crc (r : Response) : (s.deliver r).crc = s.crc := rfl
@[simp] theorem State.deliver_flt (r : Response) : (s.deliver r).flt = s.flt := rfl
@[simp] theorem State.deliver_txLog (r : Response) : (s.deliver r).txLog = s.txLog := rfl
@[simp] theorem State.deliver_frameLog (r : Response) : (s.deliver r).frameLog = s.frameLog := rfl
@[simp] theorem State.deliver_responses (r : Response) : (s.deliver r).responses = s.responses ++ [r] := rfl
@[simp] theorem State.deliver_moves (r : Response) : (s.deliver r).moves = s.moves := rfl
@[simp] theorem State.deliver_answers (r : Response) : (s.deliver r).answers = s.answers := rfl
@[simp] theorem State.deliver_draws (r : Response) : (s.deliver r).draws = s.draws := rfl

@[simp] theorem State.ask_cfg : (s.ask).cfg = s.cfg := rfl
@[simp] theorem State.ask_ses : (s.ask).ses = s.ses := rfl
@[simp] theorem State.ask_did : (s.ask).did = s.did := rfl
@[simp] theorem State.ask_seq : (s.ask).seq = s.seq := rfl
@[simp] theorem State.ask_crc : (s.ask).crc = s.crc := rfl
@[simp] theorem State.ask_flt : (s.ask).flt = s.flt := rfl
@[simp] theorem State.ask_txLog : (s.ask).txLog = s.txLog := rfl
@[simp] theorem State.ask_frameLog : (s.ask).frameLog = s.frameLog := rfl
@[simp] theorem State.ask_responses : (s.ask).responses = s.responses := rfl
@[simp] theorem State.ask_moves : (s.ask).moves = s.moves := rfl
@[simp] theorem State.ask_answers : (s.ask).answers = s.answers.tail := rfl
@[simp] theorem State.ask_draws : (s.ask).draws = s.draws + 1 := rfl

@[simp] theorem State.present_cfg (r : Request) : (s.present r).cfg = s.cfg := rfl
@[simp] theorem State.present_ses (r : Request) : (s.present r).ses = s.ses := rfl
@[simp] theorem State.present_did (r : Request) : (s.present r).did = s.did := rfl
@[simp] theorem State.present_seq (r : Request) : (s.present r).seq = s.seq := rfl
@[simp] theorem State.present_crc (r : Request) : (s.present r).crc = s.crc := rfl
@[simp] theorem State.present_flt (r : Request) : (s.present r).flt = s.flt := rfl
@[simp] theorem State.present_txLog (r : Request) : (s.present r).txLog = s.txLog := rfl
@[simp] theorem State.present_frameLog (r : Request) : (s.present r).frameLog = s.frameLog := rfl
@[simp] theorem State.present_responses (r : Request) : (s.present r).responses = s.responses := rfl
@[simp] theorem State.present_moves (r : Request) : (s.present r).moves = .request r :: s.moves := rfl
@[simp] theorem State.present_answers (r : Request) : (s.present r).answers = s.answers := rfl
@[simp] theorem State.present_draws (r : Request) : (s.present r).draws = s.draws := rfl

/-- `raise` writes the fault bit and the response, and leaves the rest (R195). -/
theorem raise_eq (e : EngineError) (r : Response) : raise e r s =
    { s with flt := s.flt ||| e.faultBit, responses := s.responses ++ [{ r with err := e.code }] } := rfl

/-- `complete` delivers the response with `rsp.err = 0`, and leaves the rest (R190). -/
theorem complete_eq (r : Response) : complete r s =
    { s with responses := s.responses ++ [{ r with err := 0 }] } := rfl

/-- The response record is that of the last request answered (R30). -/
@[simp] theorem State.rsp_deliver (r : Response) : (s.deliver r).rsp = some r := by
  simp [State.rsp]

@[simp] theorem applyReset_cfg : (applyReset s).cfg = s.cfg := rfl
@[simp] theorem applyReset_ses : (applyReset s).ses = false := rfl
@[simp] theorem applyReset_did : (applyReset s).did = Config.unsetDid := rfl
@[simp] theorem applyReset_seq : (applyReset s).seq = s.cfg.seqReset := rfl
@[simp] theorem applyReset_crc : (applyReset s).crc = crcInitValue := rfl
@[simp] theorem applyReset_flt : (applyReset s).flt = 0 := rfl
@[simp] theorem applyReset_txLog : (applyReset s).txLog = [] := rfl
@[simp] theorem applyReset_frameLog : (applyReset s).frameLog = [] := rfl
@[simp] theorem applyReset_responses : (applyReset s).responses = [] := rfl
@[simp] theorem applyReset_moves : (applyReset s).moves = s.moves := rfl
@[simp] theorem applyReset_answers : (applyReset s).answers = s.answers := rfl
@[simp] theorem applyReset_draws : (applyReset s).draws = s.draws := rfl

@[simp] theorem advance_cfg (x : Bool) (k : BitVec 8) : (advance x k s).cfg = s.cfg := by cases x <;> rfl
@[simp] theorem advance_ses (x : Bool) (k : BitVec 8) : (advance x k s).ses = s.ses := by cases x <;> rfl
@[simp] theorem advance_did (x : Bool) (k : BitVec 8) : (advance x k s).did = s.did := by cases x <;> rfl
@[simp] theorem advance_seq (x : Bool) (k : BitVec 8) : (advance x k s).seq = if x then s.seq else s.seq + k := by
  cases x <;> rfl
@[simp] theorem advance_crc (x : Bool) (k : BitVec 8) : (advance x k s).crc = s.crc := by cases x <;> rfl
@[simp] theorem advance_flt (x : Bool) (k : BitVec 8) : (advance x k s).flt = s.flt := by cases x <;> rfl
@[simp] theorem advance_txLog (x : Bool) (k : BitVec 8) : (advance x k s).txLog = s.txLog := by cases x <;> rfl
@[simp] theorem advance_frameLog (x : Bool) (k : BitVec 8) : (advance x k s).frameLog = s.frameLog := by cases x <;> rfl
@[simp] theorem advance_responses (x : Bool) (k : BitVec 8) : (advance x k s).responses = s.responses := by cases x <;> rfl
@[simp] theorem advance_moves (x : Bool) (k : BitVec 8) : (advance x k s).moves = s.moves := by cases x <;> rfl
@[simp] theorem advance_answers (x : Bool) (k : BitVec 8) : (advance x k s).answers = s.answers := by cases x <;> rfl
@[simp] theorem advance_draws (x : Bool) (k : BitVec 8) : (advance x k s).draws = s.draws := by cases x <;> rfl

end Sys2Proof.Machine
end

