-- ==== Sys2Proof/Laws/Ops.lean ====
section
/-! SUPPORT. For each shared operation one lemma that says everything it can do; the proofs cite it and do not unfold
the operation. -/

namespace Sys2Proof.Machine

/-- The stub answers 1 (R179). -/
theorem answer_noop {s : State} (h : s.cfg.xcvr = .noop) : s.answer = true := by simp [State.answer, h]

/-- A scripted answer is the one given (R9). -/
theorem answer_scripted {s : State} {a : Bool} {rest : List Bool} (h : s.cfg.xcvr = .real)
    (ha : s.answers = a :: rest) : s.answer = a := by simp [State.answer, h, ha]

/-- `n` writes append `n` entries for the frame, with the transceiver's answers, and answer whether all were 1
(R174). -/
theorem writes_spec (f : Frame) : ∀ (n : Nat) (s : State), ∃ oks : List Bool,
    oks.length = n ∧
    writes f n s = (oks.all (· == true), { s with
      txLog := s.txLog ++ oks.map fun ok => ⟨f, ok⟩
      answers := s.answers.drop n
      draws := s.draws + n }) ∧
    (s.cfg.xcvr = .noop → oks.all (· == true) = true) ∧
    (s.cfg.xcvr = .real → n ≤ s.answers.length → oks = s.answers.take n)
  | 0, s => ⟨[], rfl, by simp [writes], by simp, by simp⟩
  | n + 1, s => by
    obtain ⟨oks, hlen, hw, hnoop, hreal⟩ := writes_spec f n (s.ask.logTx f s.answer)
    refine ⟨s.answer :: oks, by simp [hlen], ?_, ?_, ?_⟩
    · simp only [writes, xcvrWrite, hw]
      simp [Nat.add_comm, Nat.add_left_comm]
    · intro h
      simpa [answer_noop h] using hnoop (by simpa using h)
    · intro h hn
      cases ha : s.answers with
      | nil => simp [ha] at hn
      | cons a rest =>
        simp [ha] at hn hreal
        simp [answer_scripted h ha, hreal h hn]

/-- `TX` makes `N_REPEAT` writes of the frame and logs it once (R174). -/
theorem tx_spec (f : Frame) (s : State) : ∃ oks : List Bool,
    oks.length = s.cfg.nRepeat ∧
    tx f s = (oks.all (· == true), { s with
      txLog := s.txLog ++ oks.map fun ok => ⟨f, ok⟩
      frameLog := s.frameLog ++ [f]
      answers := s.answers.drop s.cfg.nRepeat
      draws := s.draws + s.cfg.nRepeat }) ∧
    (s.cfg.xcvr = .noop → oks.all (· == true) = true) ∧
    (s.cfg.xcvr = .real → s.cfg.nRepeat ≤ s.answers.length → oks = s.answers.take s.cfg.nRepeat) := by
  obtain ⟨oks, hlen, hw, hnoop, hreal⟩ := writes_spec f s.cfg.nRepeat s
  exact ⟨oks, hlen, by simp [tx, hw, State.logFrame], hnoop, hreal⟩

/-- A request that a session operation refuses without a session leaves what rule R196 says. -/
theorem raise_refused (e : EngineError) (s : State) : RefusedWith e.code.toNat s (raise e {} s) := by
  cases e <;> rfl

/-- `send1` without a session raises NoSession (R132). -/
theorem send1_noSession {s : State} (h : s.ses = false) (c : Command) (x : Bool) (ctr : BitVec 8) :
    RefusedWith 4 s (send1 c x ctr s) := by
  simp only [send1, h, Bool.false_eq_true, if_false]
  exact raise_refused .noSession s

/-- `send1` with a session sends one frame (R133). -/
theorem send1_sent {s : State} (h : s.ses = true) (c : Command) (x : Bool) (ctr : BitVec 8) :
    ∃ oks, Sent [(frame s.did c (if x then ctr else s.seq), oks)] x s (send1 c x ctr s) := by
  obtain ⟨oks, hlen, htx, hnoop, hreal⟩ := tx_spec (frame s.did c (if x then ctr else s.seq)) s
  refine ⟨oks, ?_⟩
  simp only [send1, h, if_true, counterOf, htx]
  cases hok : oks.all (· == true) <;> constructor <;>
    simp_all [finish, complete, raise, EngineError.code, EngineError.faultBit]

/-- `send2` without a session raises NoSession, whatever the level (R132, R194). -/
theorem send2_noSession {s : State} (h : s.ses = false) (c : Command × Command) (l : BitVec 8) (x : Bool)
    (ctr : BitVec 8) : RefusedWith 4 s (send2 c l x ctr s) := by
  simp only [send2, h, Bool.false_eq_true, if_false]
  exact raise_refused .noSession s

/-- `send2` with a session refuses a level above 15 (R152). -/
theorem send2_invalidLevel {s : State} (h : s.ses = true) (c : Command × Command) {l : BitVec 8}
    (hl : 15 < l.toNat) (x : Bool) (ctr : BitVec 8) : RefusedWith 6 s (send2 c l x ctr s) := by
  have hlevel : levelOk l = false := decide_eq_false (Nat.not_le.mpr hl)
  simp only [send2, h, hlevel, Bool.false_eq_true, if_false, if_true]
  exact raise_refused .invalidLevel s

/-- `send2` with a session and a level in [0, 15] sends its two frames (R151). -/
theorem send2_sent {s : State} (h : s.ses = true) (c : Command × Command) {l : BitVec 8} (hl : l.toNat ≤ 15)
    (x : Bool) (ctr : BitVec 8) : ∃ oks0 oks1,
      Sent [(frame s.did c.1 (if x then ctr else s.seq), oks0),
        (frame s.did c.2 ((if x then ctr else s.seq) + 1), oks1)] x s (send2 c l x ctr s) := by
  have hlevel : levelOk l = true := decide_eq_true hl
  obtain ⟨oks0, hlen0, htx0, hnoop0, hreal0⟩ := tx_spec (frame s.did c.1 (if x then ctr else s.seq)) s
  obtain ⟨oks1, hlen1, htx1, hnoop1, hreal1⟩ :=
    tx_spec (frame s.did c.2 ((if x then ctr else s.seq) + 1)) (tx (frame s.did c.1 (if x then ctr else s.seq)) s).2
  refine ⟨oks0, oks1, ?_⟩
  rw [htx0] at hlen1 htx1 hnoop1 hreal1
  have hscript : s.cfg.xcvr = .real → s.cfg.nRepeat * 2 ≤ s.answers.length →
      oks0 ++ oks1 = s.answers.take (s.cfg.nRepeat * 2) := by
    intro hx hn
    have hl1 : s.cfg.nRepeat ≤ s.answers.length - s.cfg.nRepeat := by omega
    have h0 := hreal0 hx (by omega)
    have h1 := hreal1 hx (by simpa using hl1)
    rw [Nat.mul_two, List.take_add, ← h0]
    exact congrArg _ h1
  simp only [send2, h, hlevel, if_true, counterOf, htx0]
  cases hok0 : oks0.all (· == true) <;> cases hok1 : oks1.all (· == true) <;> constructor <;>
    simp_all [finish, complete, raise, EngineError.code, EngineError.faultBit, Nat.mul_two, Nat.add_assoc]

/-- What `CFG` can do (R170). -/
theorem configure_cases (idin : BitVec 32) (s : State) :
    (s.ses = true ∧ RefusedWith 5 s (configure idin s)) ∨
    (s.ses = false ∧ 0xFFFFFF < idin.toNat ∧ RefusedWith 2 s (configure idin s)) ∨
    (s.ses = false ∧ idin.toNat ≤ 0xFFFFFF ∧ s.answer = false ∧ RefusedWith 3 s.ask (configure idin s)) ∨
    (s.ses = false ∧ idin.toNat ≤ 0xFFFFFF ∧ s.answer = true ∧
      Answered {} (s.ask.openSession (idin.extractLsb' 0 24)) (configure idin s)) := by
  cases hses : s.ses with
  | true => exact .inl ⟨rfl, by rw [configure, hses]; exact raise_refused .sessionExists s⟩
  | false =>
    rcases Nat.lt_or_ge 0xFFFFFF idin.toNat with hid | hid
    · have hk : idOk idin = false := decide_eq_false (Nat.not_le.mpr hid)
      exact .inr (.inl ⟨rfl, hid, by rw [configure, hses, hk]; exact raise_refused .invalidDeviceId s⟩)
    · have hk : idOk idin = true := decide_eq_true hid
      cases ha : s.answer with
      | false =>
        exact .inr (.inr (.inl ⟨rfl, hid, rfl, by
          simp only [configure, hses, hk, xcvrInit, ha]; exact raise_refused .hardwareUnavailable s.ask⟩))
      | true =>
        exact .inr (.inr (.inr ⟨rfl, hid, rfl, by
          simp only [configure, hses, hk, xcvrInit, ha]; rfl⟩))

end Sys2Proof.Machine
end

