-- ==== Sys2Proof/Laws/Step.lean ====
section
/-! SUPPORT. What an operation and a step can do, said once: the inversion lemmas from which invariants follow. -/

namespace Sys2Proof.Machine

/-- The five things an operation can do to the state (R35, R196). -/
inductive Effect (s t : State) : Prop where
  /-- It answers, and writes at most `CRC`. -/
  | answered (r : Response) (c : BitVec 16) (err : r.err = 0) (one : r.frame1 = none)
      (built : ∀ f, r.frame0 = some f → ∃ id cmd k, f = frame id cmd k) (eq : Answered r { s with crc := c } t)
  /-- It is refused before the transceiver is asked. -/
  | refused (n : Nat) (code : n = 1 ∨ n = 2 ∨ n = 4 ∨ n = 5 ∨ n = 6) (eq : RefusedWith n s t)
  /-- `CFG` asked the transceiver in vain. -/
  | unavailable (ses : s.ses = false) (ans : s.answer = false) (eq : RefusedWith 3 s.ask t)
  /-- `CFG` created a session. -/
  | opened (id : DeviceId) (ses : s.ses = false) (ans : s.answer = true)
      (eq : Answered {} (s.ask.openSession id) t)
  /-- A session operation sent one or two frames. -/
  | sent (fs : List (Frame × List Bool)) (x : Bool) (ses : s.ses = true)
      (codes : ∀ p ∈ fs, ∃ c k, emittable c = true ∧ p.1 = frame s.did c k)
      (eq : Sent fs x s t)

/-- A direct step has a magnitude in [0, 15] (R131). -/
theorem mag_le (st : BitVec 8) : mag st ≤ 15 := by
  unfold mag clamp stepMax
  split
  · omega
  · split <;> omega

/-- A code whose magnitude is at most 16 is one of the 70 (R74). -/
theorem emittable_code (k : CodeKind) {m : Nat} (h : m ≤ 16) : emittable (code k m) = true := by
  cases k <;> simp [emittable, code] <;> omega

/-- Both codes of `from_low` are among the 70. -/
theorem emittable_fromLow (d : Dimension) {l : BitVec 8} (h : l.toNat ≤ 15) :
    emittable (fromLow d l).1 = true ∧ emittable (fromLow d l).2 = true :=
  ⟨emittable_code _ (by simp [satMag]), emittable_code _ (by omega)⟩

/-- Both codes of `from_high` are among the 70. -/
theorem emittable_fromHigh (d : Dimension) (l : BitVec 8) :
    emittable (fromHigh d l).1 = true ∧ emittable (fromHigh d l).2 = true :=
  ⟨emittable_code _ (by simp [satMag]), emittable_code _ (by simp [levelMax]; omega)⟩

/-- Both codes of `SETC` and `SETI` are among the 70. -/
theorem emittable_fromNearer (d : Dimension) {l : BitVec 8} (h : l.toNat ≤ 15) :
    emittable (fromNearer d l).1 = true ∧ emittable (fromNearer d l).2 = true := by
  unfold fromNearer
  split
  · exact emittable_fromLow d h
  · exact emittable_fromHigh d l

/-- What a direct operation can do. -/
theorem effect_send1 {c : Command} (hc : emittable c = true) (x : Bool) (ctr : BitVec 8) (s : State) :
    Effect s (send1 c x ctr s) := by
  cases h : s.ses with
  | false => exact .refused 4 (by simp) (send1_noSession h c x ctr)
  | true =>
    obtain ⟨oks, hs⟩ := send1_sent h c x ctr
    exact .sent _ x h (by simpa using ⟨c, hc, _, rfl⟩) hs

/-- What a composite operation can do. -/
theorem effect_send2 {c : Command × Command} {l : BitVec 8}
    (hc : l.toNat ≤ 15 → emittable c.1 = true ∧ emittable c.2 = true) (x : Bool) (ctr : BitVec 8) (s : State) :
    Effect s (send2 c l x ctr s) := by
  cases h : s.ses with
  | false => exact .refused 4 (by simp) (send2_noSession h c l x ctr)
  | true =>
    rcases Nat.lt_or_ge 15 l.toNat with hl | hl
    · exact .refused 6 (by simp) (send2_invalidLevel h c hl x ctr)
    · obtain ⟨oks0, oks1, hs⟩ := send2_sent h c hl x ctr
      refine .sent _ x h ?_ hs
      simpa using ⟨⟨c.1, (hc hl).1, _, rfl⟩, ⟨c.2, (hc hl).2, _, rfl⟩⟩

/-- What `CFG` can do. -/
theorem effect_configure (idin : BitVec 32) (s : State) : Effect s (configure idin s) := by
  obtain ⟨-, h⟩ | ⟨-, -, h⟩ | ⟨hs, -, ha, h⟩ | ⟨hs, -, ha, h⟩ := configure_cases idin s
  · exact .refused 5 (by simp) h
  · exact .refused 2 (by simp) h
  · exact .unavailable hs ha h
  · exact .opened _ hs ha h

/-- Every operation answers a next state, with one of the five effects. -/
theorem exec_effect (i : Instr) (s : State) : ∃ t, exec i s = .next t ∧ Effect s t := by
  have hm := fun st : BitVec 8 => Nat.le_succ_of_le (mag_le st)
  cases i with
  | crcInit => exact ⟨_, rfl, .answered _ crcInitValue rfl rfl (by simp) rfl⟩
  | crcByte b => exact ⟨_, rfl, .answered _ (crcByte s.crc b) rfl rfl (by simp) rfl⟩
  | align raw => exact ⟨_, rfl, .answered _ s.crc rfl rfl (by simp) rfl⟩
  | enc id cmd k => exact ⟨_, rfl, .answered _ s.crc rfl rfl (by rintro f ⟨⟩; exact ⟨id, cmd, k, rfl⟩) rfl⟩
  | decCap raw => exact ⟨_, rfl, .answered _ s.crc rfl rfl (by simp [decoded]) rfl⟩
  | decPay p => exact ⟨_, rfl, .answered _ s.crc rfl rfl (by simp [decoded]) rfl⟩
  | decFrm f => exact ⟨_, rfl, .answered _ s.crc rfl rfl (by simp [decoded]) rfl⟩
  | cfg idin => exact ⟨_, rfl, effect_configure idin s⟩
  | pwr x ctr => exact ⟨_, rfl, effect_send1 (emittable_code _ (by simp)) x ctr s⟩
  | rset x ctr => exact ⟨_, rfl, effect_send1 (emittable_code _ (by simp)) x ctr s⟩
  | cooler st x ctr => exact ⟨_, rfl, effect_send1 (emittable_code _ (hm st)) x ctr s⟩
  | warmer st x ctr => exact ⟨_, rfl, effect_send1 (emittable_code _ (hm st)) x ctr s⟩
  | higher st x ctr => exact ⟨_, rfl, effect_send1 (emittable_code _ (hm st)) x ctr s⟩
  | lower st x ctr => exact ⟨_, rfl, effect_send1 (emittable_code _ (hm st)) x ctr s⟩
  | lvlLoA l x ctr => exact ⟨_, rfl, effect_send2 (emittable_fromLow .A) x ctr s⟩
  | lvlHiA l x ctr => exact ⟨_, rfl, effect_send2 (fun _ => emittable_fromHigh .A l) x ctr s⟩
  | lvlLoB l x ctr => exact ⟨_, rfl, effect_send2 (emittable_fromLow .B) x ctr s⟩
  | lvlHiB l x ctr => exact ⟨_, rfl, effect_send2 (fun _ => emittable_fromHigh .B l) x ctr s⟩
  | setc l x ctr => exact ⟨_, rfl, effect_send2 (emittable_fromNearer .A) x ctr s⟩
  | seti l x ctr => exact ⟨_, rfl, effect_send2 (emittable_fromNearer .B) x ctr s⟩

/-- The four things a step can do: stay idle, reset, refuse an illegal word, or run an operation. -/
theorem step_cases {s t : State} (h : step s = .next t) :
    (s.moves = [] ∧ t = s) ∨
    (∃ rest, s.moves = .rst :: rest ∧ t = applyReset { s with moves := rest }) ∨
    (∃ q rest e, s.moves = .request q :: rest ∧ decode q = .error e ∧ RefusedWith 1 { s with moves := rest } t) ∨
    (∃ q rest i, s.moves = .request q :: rest ∧ decode q = .ok i ∧ exec i { s with moves := rest } = .next t) := by
  rcases hm : s.moves with _ | ⟨q | _, rest⟩ <;> simp only [step, takeMove, hm] at h
  · cases h
    exact .inl ⟨rfl, rfl⟩
  · rcases hd : decode q with e | i <;> simp only [hd] at h
    · cases h
      exact .inr (.inr (.inl ⟨q, rest, e, rfl, hd, raise_refused .illegalRequest _⟩))
    · exact .inr (.inr (.inr ⟨q, rest, i, rfl, hd, h⟩))
  · cases h
    exact .inr (.inl ⟨rest, rfl, rfl⟩)

/-- A step that is no reset keeps the state idle or has one of the five effects, on the state without the move. -/
theorem step_effect {s t : State} (h : step s = .next t) :
    (s.moves = [] ∧ t = s) ∨
    (∃ rest, s.moves = .rst :: rest ∧ t = applyReset { s with moves := rest }) ∨
    (∃ q rest, s.moves = .request q :: rest ∧ Effect { s with moves := rest } t) := by
  obtain h | h | ⟨q, rest, e, hm, -, he⟩ | ⟨q, rest, i, hm, -, he⟩ := step_cases h
  · exact .inl h
  · exact .inr (.inl h)
  · exact .inr (.inr ⟨q, rest, hm, .refused 1 (by simp) he⟩)
  · obtain ⟨t', ht', heff⟩ := exec_effect i { s with moves := rest }
    rw [ht'] at he
    cases he
    exact .inr (.inr ⟨q, rest, hm, heff⟩)

end Sys2Proof.Machine
end

