-- ==== Sys2Proof/Laws/Operands.lean ====
section
/-! SUPPORT. What each operand form, the frame and the host's move come to. -/

namespace Sys2Proof.Machine

/-- A move presented is the next one taken, and taking it gives the state back (R8). -/
@[simp] theorem takeMove_present (s : State) (r : Request) : takeMove (s.present r) = .request r s := rfl

/-- With an explicit counter the frame carries it (R133). -/
@[simp] theorem counterOf_explicit (ctr : BitVec 8) (s : State) : counterOf true ctr s = ctr := rfl

/-- Without one the frame carries `SEQ` (R133). -/
@[simp] theorem counterOf_auto (ctr : BitVec 8) (s : State) : counterOf false ctr s = s.seq := rfl

/-- A negative step has magnitude 0 (R131). -/
theorem mag_of_neg {st : BitVec 8} (h : st.toInt < 0) : mag st = 0 := by simp [mag, clamp, h]

/-- A step above 15 has magnitude 15 (R131). -/
theorem mag_of_large {st : BitVec 8} (h : 15 < st.toInt) : mag st = 15 := by
  have : ¬ st.toInt < 0 := by omega
  simp [mag, clamp, stepMax, this, h]

/-- A step in [0, 15] is its own magnitude (R131). -/
theorem mag_of_range {st : BitVec 8} (h0 : 0 ≤ st.toInt) (h15 : st.toInt ≤ 15) : mag st = st.toInt.toNat := by
  simp [mag, clamp, stepMax, Int.not_lt.mpr h0, Int.not_lt.mpr h15]

/-- Bit `j` of the stripped payload is bit `j + TRAIL_BITS` of the capture (R121). -/
theorem getLsbD_strip (c : Config) (raw : Dat) {j : Nat} (h : j < 72) :
    (strip c raw).getLsbD j = (decide (c.trailBits + j < c.capBits) && raw.getLsbD (c.trailBits + j)) := by
  simp only [strip, capture, BitVec.getLsbD_ofNat, h, decide_true, Bool.true_and, Nat.testBit_shiftRight,
    Nat.testBit_mod_two_pow, BitVec.testBit_toNat]

/-- A value has as many bytes as it is asked for (R13). -/
@[simp] theorem bytesBE_length (n : Nat) {w : Nat} (v : BitVec w) : (bytesBE n v).length = n := by simp [bytesBE]

/-- The CRC of one more byte folds it in (R92). -/
theorem crc16_concat (bytes : List Byte) (b : Byte) : crc16 (bytes ++ [b]) = crcByte (crc16 bytes) b := by
  simp [crc16]

/-- The bits of the fifteen bytes a checksum covers, field by field (R70). -/
theorem getLsbD_message (id : DeviceId) (cmd : Command) (k : BitVec 8) (i : Nat) :
    (message id cmd k).getLsbD i =
      if i < 16 then cmd.getLsbD i
      else if i - 16 < 8 then k.getLsbD (i - 16)
      else if i - 16 - 8 < 8 then separator.getLsbD (i - 16 - 8)
      else if i - 16 - 8 - 8 < 24 then id.getLsbD (i - 16 - 8 - 8)
      else preamble.getLsbD (i - 16 - 8 - 8 - 24) := by
  refine (BitVec.getLsbD_append (x := preamble ++ id ++ separator ++ k) (y := cmd)).trans ?_
  rw [BitVec.getLsbD_append, BitVec.getLsbD_append, BitVec.getLsbD_append]

/-- The bits of a frame: its message above its checksum (R100). -/
theorem getLsbD_frame (id : DeviceId) (cmd : Command) (k : BitVec 8) (i : Nat) :
    (frame id cmd k).getLsbD i =
      if i < 16 then (crc16 (bytesBE 15 (message id cmd k))).getLsbD i
      else (message id cmd k).getLsbD (i - 16) := by
  exact BitVec.getLsbD_append (x := message id cmd k) (y := crc16 (bytesBE 15 (message id cmd k)))

/-- The first fifteen bytes of a frame are its message (R100). -/
theorem frame_message (id : DeviceId) (cmd : Command) (k : BitVec 8) :
    (frame id cmd k).extractLsb' 16 120 = message id cmd k := by
  apply BitVec.eq_of_getLsbD_eq
  intro i hi
  simp only [BitVec.getLsbD_extractLsb', hi, getLsbD_frame, decide_true, Bool.true_and,
    show ¬ 16 + i < 16 by omega, if_false, Nat.add_sub_cancel_left]

/-- The last two bytes of a frame are the checksum of its message (R102). -/
theorem frame_checksum (id : DeviceId) (cmd : Command) (k : BitVec 8) :
    (frame id cmd k).extractLsb' 0 16 = crc16 (bytesBE 15 (message id cmd k)) := by
  apply BitVec.eq_of_getLsbD_eq
  intro i hi
  simp only [BitVec.getLsbD_extractLsb', hi, getLsbD_frame, decide_true, Bool.true_and, Nat.zero_add, if_true]

end Sys2Proof.Machine
end

