-- ==== Sys2Proof/Laws/PerInstr.lean ====
section
/-! SUPPORT. The statement made for every operation as syntax: its encoded control word selects its row of the opcode
table, `(w and mask) = match` (rule R62). -/

namespace Sys2Proof.Laws.EncodeMatchesRow

/-- The control word of the operation, under the mask of its row, is the match of its row. -/
def Statement (i : Instr) : Prop := (encode i).ctl &&& i.tableRow.2 = i.tableRow.1

/-- A word of format N of the operation number `op`. -/
theorem formatN_matches (op : BitVec 5) :
    (op ++ BitVec.ofBool false ++ 0#2 ++ 0#8 : BitVec 16) &&& 0xFFFF = op.setWidth 16 <<< 11 := by
  revert op; decide

/-- A word of format S of the operation number `op`. -/
theorem formatS_matches (op : BitVec 5) (x : Bool) (ctr : BitVec 8) :
    (op ++ BitVec.ofBool x ++ 0#2 ++ ctr : BitVec 16) &&& 0xFB00 = op.setWidth 16 <<< 11 := by
  cases x <;> revert op ctr <;> decide +kernel

theorem crcInit : Statement .crcInit := formatN_matches _

theorem crcByte (b : Byte) : Statement (.crcByte b) := formatN_matches _

theorem align (raw : Dat) : Statement (.align raw) := formatN_matches _

theorem enc (id : DeviceId) (cmd : Command) (k : BitVec 8) : Statement (.enc id cmd k) := formatN_matches _

theorem decCap (raw : Dat) : Statement (.decCap raw) := formatN_matches _

theorem decPay (p : Payload) : Statement (.decPay p) := formatN_matches _

theorem decFrm (f : Frame) : Statement (.decFrm f) := formatN_matches _

theorem cfg (idin : BitVec 32) : Statement (.cfg idin) := formatN_matches _

theorem pwr (x : Bool) (ctr : BitVec 8) : Statement (.pwr x ctr) := formatS_matches _ x ctr

theorem cooler (st : BitVec 8) (x : Bool) (ctr : BitVec 8) : Statement (.cooler st x ctr) := formatS_matches _ x ctr

theorem warmer (st : BitVec 8) (x : Bool) (ctr : BitVec 8) : Statement (.warmer st x ctr) := formatS_matches _ x ctr

theorem higher (st : BitVec 8) (x : Bool) (ctr : BitVec 8) : Statement (.higher st x ctr) := formatS_matches _ x ctr

theorem lower (st : BitVec 8) (x : Bool) (ctr : BitVec 8) : Statement (.lower st x ctr) := formatS_matches _ x ctr

theorem rset (x : Bool) (ctr : BitVec 8) : Statement (.rset x ctr) := formatS_matches _ x ctr

theorem lvlLoA (l : BitVec 8) (x : Bool) (ctr : BitVec 8) : Statement (.lvlLoA l x ctr) := formatS_matches _ x ctr

theorem lvlHiA (l : BitVec 8) (x : Bool) (ctr : BitVec 8) : Statement (.lvlHiA l x ctr) := formatS_matches _ x ctr

theorem lvlLoB (l : BitVec 8) (x : Bool) (ctr : BitVec 8) : Statement (.lvlLoB l x ctr) := formatS_matches _ x ctr

theorem lvlHiB (l : BitVec 8) (x : Bool) (ctr : BitVec 8) : Statement (.lvlHiB l x ctr) := formatS_matches _ x ctr

theorem setc (l : BitVec 8) (x : Bool) (ctr : BitVec 8) : Statement (.setc l x ctr) := formatS_matches _ x ctr

theorem seti (l : BitVec 8) (x : Bool) (ctr : BitVec 8) : Statement (.seti l x ctr) := formatS_matches _ x ctr

end Sys2Proof.Laws.EncodeMatchesRow
end

