-- ==== Sys2Proof/Tests/Slice0.lean ====
section
/-! SUPPORT. Tests: the well-formedness check, words written out from the encodings of rules R60 to R62, one step on a
small state for every operation (expected values from 95_test_vectors.md), and a witness for the hypotheses of every
obligation that has some. -/

namespace Sys2Proof.Tests

open Sys2Proof Sys2Proof.Machine

set_option Elab.async false

/-! ### Well-formedness (R63, case 4) -/

theorem test_wf_refuses_counter_without_x : ¬ (Instr.pwr false 1).WellFormed := by decide
theorem test_wf_accepts_explicit_zero : (Instr.pwr true 0).WellFormed := by decide

/-! ### Decoding: each word is its fields, bit by bit (`op`, then `x`, `00`, `ctr`, or eleven zeros) -/

theorem test_decode_crcInit : decode ⟨0b00001_00000000000, 0⟩ = .ok .crcInit := by decide
theorem test_decode_crcByte : decode ⟨0b00010_00000000000, 0x53⟩ = .ok (.crcByte 0x53) := by decide
theorem test_decode_align : decode ⟨0b00011_00000000000, 5⟩ = .ok (.align 5) := by decide
theorem test_decode_enc : decode ⟨0b00100_00000000000, 0xABCDEF010072⟩ = .ok (.enc 0xABCDEF 0x0100 0x72) := by decide
theorem test_decode_decCap : decode ⟨0b00101_00000000000, 7⟩ = .ok (.decCap 7) := by decide
theorem test_decode_decPay : decode ⟨0b00110_00000000000, 0xabcdefff720100fad4⟩ =
    .ok (.decPay 0xabcdefff720100fad4) := by decide
theorem test_decode_decFrm : decode ⟨0b00111_00000000000, 0x533914dd1c493412abcdefff720100fad4⟩ =
    .ok (.decFrm 0x533914dd1c493412abcdefff720100fad4) := by decide
theorem test_decode_cfg : decode ⟨0b01000_00000000000, 0xF00000001⟩ = .ok (.cfg 1) := by decide
theorem test_decode_pwr : decode ⟨0b10001_1_00_11111111, 0⟩ = .ok (.pwr true 0xFF) := by decide
theorem test_decode_cooler : decode ⟨0b10010_0_00_00000000, 3⟩ = .ok (.cooler 3 false 0) := by decide
theorem test_decode_warmer : decode ⟨0b10011_1_00_01000000, 1⟩ = .ok (.warmer 1 true 0x40) := by decide
theorem test_decode_higher : decode ⟨0b10100_1_00_01000000, 7⟩ = .ok (.higher 7 true 0x40) := by decide
theorem test_decode_lower : decode ⟨0b10101_0_00_00000000, 0xFD⟩ = .ok (.lower 0xFD false 0) := by decide
theorem test_decode_rset : decode ⟨0b10110_1_00_00000001, 0⟩ = .ok (.rset true 1) := by decide
theorem test_decode_lvlLoA : decode ⟨0b11000_1_00_11111111, 5⟩ = .ok (.lvlLoA 5 true 0xFF) := by decide
theorem test_decode_lvlHiA : decode ⟨0b11001_0_00_00000000, 12⟩ = .ok (.lvlHiA 12 false 0) := by decide
theorem test_decode_lvlLoB : decode ⟨0b11010_1_00_11111111, 5⟩ = .ok (.lvlLoB 5 true 0xFF) := by decide
theorem test_decode_lvlHiB : decode ⟨0b11011_1_00_11111111, 12⟩ = .ok (.lvlHiB 12 true 0xFF) := by decide
theorem test_decode_setc : decode ⟨0b11100_1_00_11111111, 3⟩ = .ok (.setc 3 true 0xFF) := by decide
theorem test_decode_seti : decode ⟨0b11101_1_00_00100000, 8⟩ = .ok (.seti 8 true 0x20) := by decide

/-- Vectors V140 to V149, V152, V153, V155, V156: the illegal words, each with the case of rule R63 that makes it so. -/
theorem test_decode_illegal :
    decode ⟨0x0000, 0⟩ = .error .reservedOp ∧ decode ⟨0x0801, 0⟩ = .error .formatNBits ∧
    decode ⟨0x0C00, 0⟩ = .error .formatNBits ∧ decode ⟨0x2400, 0⟩ = .error .formatNBits ∧
    decode ⟨0x4800, 0⟩ = .error .reservedOp ∧ decode ⟨0x8000, 0⟩ = .error .reservedOp ∧
    decode ⟨0x8801, 0⟩ = .error .counterWithoutX ∧ decode ⟨0x8900, 0⟩ = .error .formatSBits ∧
    decode ⟨0x8A00, 0⟩ = .error .formatSBits ∧ decode ⟨0xB800, 0⟩ = .error .reservedOp ∧
    decode ⟨0xE8FF, 0⟩ = .error .counterWithoutX ∧ decode ⟨0xF000, 0⟩ = .error .reservedOp ∧
    decode ⟨0xFFFF, 0⟩ = .error .reservedOp := by decide

theorem test_table_word : decodeTableWord 16 0xB000 = some (.rset false 0) := by decide

/-- A request presented at reset runs: `PWR` without a session ends with NoSession (V130). -/
theorem test_fetch_runs : ∃ t, step (State.reset.withFetchWord 16 0x8800) = .next t ∧ t.flt = 0x10 :=
  ⟨_, rfl, by decide +kernel⟩

/-! ### One step of each operation -/

/-- A session with the identity of the spec's vectors and the no-op transceiver (R179). -/
def session (id : DeviceId) : State :=
  { State.reset with cfg := { Config.default with xcvr := .noop, nRepeat := 2 }, ses := true, did := id }

/-- The last response of an outcome. -/
def rspOf : Result → Option Response
  | .next t => t.rsp
  | .fault _ => none
  | .refused _ => none

/-- The frames an outcome has logged. -/
def framesOf : Result → List Frame
  | .next t => t.frameLog
  | .fault _ => []
  | .refused _ => []

/-- The counter an outcome leaves. -/
def seqOf : Result → Option (BitVec 8)
  | .next t => some t.seq
  | .fault _ => none
  | .refused _ => none

/-- V6, V9, V10, V13: the values of `crc16`. -/
theorem test_crc16_values :
    crc16 [0x53] = 0x8A66 ∧ crc16 [0x31, 0x32, 0x33, 0x34, 0x35, 0x36, 0x37, 0x38, 0x39] = 0x6E62 ∧
    crc16 (bytesBE 8 preamble) = 0xDE39 ∧ crc16 (bytesBE 15 0x533914dd1c493412abcdefff720100#120) = 0xFAD4 := by
  decide +kernel

/-- V19: `CRC.INIT` discards a checksum in progress. -/
theorem test_crcInit : rspOf (exec .crcInit (State.reset.setCrc 0x1234)) = some { crc := some 0xFFFE } := by
  decide +kernel

/-- V17: the second byte of the literal vector. -/
theorem test_crcByte : rspOf (exec (.crcByte 0x39) (State.reset.setCrc 0x8A66)) = some { crc := some 0xF1B8 } := by
  decide +kernel

/-- V53: stray bits of alternating ones and zeros. -/
theorem test_align : rspOf (exec (.align 0x5555579bdffee40201f5a955) State.reset) =
    some { payload := some 0xabcdefff720100fad4 } := by decide +kernel

/-- S1, the one checksum LBAR gives. -/
theorem test_enc : rspOf (exec (.enc 0xABCDEF 0x0100 0x72) State.reset) =
    some { n := some 1, frame0 := some 0x533914dd1c493412abcdefff720100fad4 } := by decide +kernel

/-- V55. -/
theorem test_decCap : rspOf (exec (.decCap 0xfffe2468adfffe09e02b2200) State.reset) = some {
    payload := some 0x123456ffff04f01591, id := some 0x123456, sep := some 0xFF, ctr := some 0xFF,
    cmd := some 0x04F0, chk := some 0x1591, valid := some true } := by decide +kernel

/-- V47: the separator is not validated and enters the check as received. -/
theorem test_decPay_separator : rspOf (exec (.decPay 0xabcdef00720100b177) State.reset) = some {
    id := some 0xABCDEF, sep := some 0, ctr := some 0x72, cmd := some 0x0100, chk := some 0xB177,
    valid := some true } := by decide +kernel

/-- V49: the checksum's top bit flipped. -/
theorem test_decPay_corrupt : (rspOf (exec (.decPay 0xabcdefff7201007ad4) State.reset)).bind Response.valid =
    some false := by decide +kernel

/-- V46: a flipped preamble bit is reported and does not enter `valid`. -/
theorem test_decFrm : rspOf (exec (.decFrm 0xd33914dd1c493412abcdefff720100fad4) State.reset) = some {
    preOk := some false, id := some 0xABCDEF, sep := some 0xFF, ctr := some 0x72, cmd := some 0x0100,
    chk := some 0xFAD4, valid := some true } := by decide +kernel

/-- V120 and V128 in one: the identity is written and the session opened when the transceiver answers 1. -/
theorem test_cfg : ∃ t, exec (.cfg 0xABCDEF) { State.reset with answers := [true] } = .next t ∧
    t.ses = true ∧ t.did = 0xABCDEF ∧ t.seq = 0 := ⟨_, rfl, by decide +kernel⟩

/-- V125: the transceiver answers 0. -/
theorem test_cfg_unavailable : ∃ t, exec (.cfg 0xABCDEF) { State.reset with answers := [false] } = .next t ∧
    t.ses = false ∧ t.flt = 0x08 := ⟨_, rfl, by decide +kernel⟩

/-- V60. -/
theorem test_pwr : framesOf (exec (.pwr true 0x40) (session 0x123456)) = [0x533914dd1c493412123456ff400100d7b5] := by
  decide +kernel

/-- The auto-numbered `PWR` at 255: the counter wraps (S3, program P2's identity). -/
theorem test_pwr_wraps : seqOf (exec (.pwr false 0) ((session 0xABCDEF).setSeq 0xFF)) = some 0 := by decide +kernel

/-- V65: a step of 16 is clamped to 15. -/
theorem test_cooler : framesOf (exec (.cooler 0x10 true 0x40) (session 0x123456)) =
    [0x533914dd1c493412123456ff40020f7309] := by decide +kernel

/-- V132: the second of the writes is answered 0; all are made, `SEQ` advances, the request ends with code 7. -/
theorem test_cooler_writeFault : ∃ t,
    exec (.cooler 3 false 0) { session 0xABCDEF with
      cfg := { Config.default with nRepeat := 3 }, answers := [true, false, true] } = .next t ∧
    t.txLog = [⟨0x533914dd1c493412abcdefff000203298c, true⟩, ⟨0x533914dd1c493412abcdefff000203298c, false⟩,
      ⟨0x533914dd1c493412abcdefff000203298c, true⟩] ∧
    t.seq = 1 ∧ t.flt = 0x80 ∧ t.rsp = some
      { err := 7, n := some 1, frame0 := some 0x533914dd1c493412abcdefff000203298c } := ⟨_, rfl, by decide +kernel⟩

/-- V73: a negative step is clamped to 0. -/
theorem test_warmer : framesOf (exec (.warmer 0xFF true 0x40) (session 0x123456)) =
    [0x533914dd1c493412123456ff400300b1d7] := by decide +kernel

/-- V75. -/
theorem test_higher : framesOf (exec (.higher 7 true 0x40) (session 0x123456)) =
    [0x533914dd1c493412123456ff40040758a7] := by decide +kernel

/-- V82. -/
theorem test_lower : framesOf (exec (.lower 15 true 0x40) (session 0x123456)) =
    [0x533914dd1c493412123456ff4004f1d77e] := by decide +kernel

/-- V61. -/
theorem test_rset : framesOf (exec (.rset true 0x40) (session 0x123456)) =
    [0x533914dd1c493412123456ff4006004e22] := by decide +kernel

/-- V91. -/
theorem test_lvlLoA : framesOf (exec (.lvlLoA 5 true 0xFF) (session 0x123456)) =
    [0x533914dd1c493412123456ffff02f0bf37, 0x533914dd1c493412123456ff000205cfee] := by decide +kernel

/-- V94. -/
theorem test_lvlHiA : framesOf (exec (.lvlHiA 12 true 0xFF) (session 0x123456)) =
    [0x533914dd1c493412123456ffff02104219, 0x533914dd1c493412123456ff0002fda1f9] := by decide +kernel

/-- V97. -/
theorem test_lvlLoB : framesOf (exec (.lvlLoB 5 true 0xFF) (session 0x123456)) =
    [0x533914dd1c493412123456ffff04f01591, 0x533914dd1c493412123456ff0004056548] := by decide +kernel

/-- V99. -/
theorem test_lvlHiB : framesOf (exec (.lvlHiB 0 true 0xFF) (session 0x123456)) =
    [0x533914dd1c493412123456ffff0410e8bf, 0x533914dd1c493412123456ff0004f1cad3] := by decide +kernel

/-- V103: the low side of the split. -/
theorem test_setc : framesOf (exec (.setc 7 true 0xFF) (session 0x123456)) =
    [0x533914dd1c493412123456ffff02f0bf37, 0x533914dd1c493412123456ff000207efac] := by decide +kernel

/-- V108: the high side of the split. -/
theorem test_seti : framesOf (exec (.seti 8 true 0xFF) (session 0x123456)) =
    [0x533914dd1c493412123456ffff0410e8bf, 0x533914dd1c493412123456ff0004f94bdb] := by decide +kernel

/-- V133: an auto-numbered composite operation advances `SEQ` by two, across the wrap (S3). -/
theorem test_seti_advances : seqOf (exec (.seti 8 false 0) ((session 0xABCDEF).setSeq 0xFF)) = some 1 := by
  decide +kernel

/-- V131: the state check comes before the operand check. -/
theorem test_seti_priority : (rspOf (exec (.seti 16 false 0) State.reset)).map Response.err = some 4 := by
  decide +kernel

/-- V110: a level of 16 with a session. -/
theorem test_seti_invalidLevel : (rspOf (exec (.seti 16 false 0) (session 0xABCDEF))).map Response.err = some 6 := by
  decide +kernel

/-- The reset row of rule R34, from a state with every register set. -/
theorem test_reset : ∃ t, step { session 7 with seq := 9, crc := 3, flt := 0xFE, moves := [.rst] } = .next t ∧
    t.ses = false ∧ t.seq = 0 ∧ t.crc = 0xFFFE ∧ t.flt = 0 ∧ t.didQ = none := ⟨_, rfl, by decide +kernel⟩

/-! ### Witnesses: the hypotheses of each obligation can be met together, at the edges of their ranges -/

theorem witness_DecodeOfEncodeIsTheOperation :
    (Instr.seti 8 true 0xFF).WellFormed ∧ (Instr.pwr false 0).WellFormed ∧ Instr.crcInit.WellFormed := by decide

/-- One word of each format, at the edge of the counter: `x = 0` with 0, `x = 1` with 255. -/
theorem witness_TableRowsSelectTheirOperations :
    (0x2000 : Ctl) &&& 0xFFFF = 0x2000 ∧ (0x8800 : Ctl) &&& 0xFB00 = 0x8800 ∧
    counterOk ((0x8800 : Ctl).toNat / 1024 % 2 == 1) (BitVec.ofNat 8 (0x8800 : Ctl).toNat) ∧
    (0xECFF : Ctl) &&& 0xFB00 = 0xE800 ∧
    counterOk ((0xECFF : Ctl).toNat / 1024 % 2 == 1) (BitVec.ofNat 8 (0xECFF : Ctl).toNat) := by decide

theorem witness_DecodeDropsNoBit : decode ⟨0xECFF, 0xFFFF08⟩ = .ok (.seti 8 true 0xFF) := by decide

/-- The four kinds of illegal word, each beside a legal neighbour. -/
theorem witness_IllegalWordsAreRefused :
    ¬ LegalWord 0xF000 ∧ LegalWord 0xE800 ∧ ¬ LegalWord 0x0801 ∧ LegalWord 0x0800 ∧ ¬ LegalWord 0x8900 ∧
    LegalWord 0x8C00 ∧ ¬ LegalWord 0x88FF ∧ LegalWord 0x8CFF := by
  refine ⟨?_, ?_, ?_, ?_, ?_, ?_, ?_, ?_⟩ <;> decide

theorem witness_BitsAboveTheOperandHaveNoEffect :
    decode ⟨0x1800, 5⟩ = .ok (.align 5) ∧
    ∀ j, j < operandBits State.reset.cfg (.align 5) →
      (5 : Dat).getLsbD j = (5 + 2 ^ 96 : Dat).getLsbD j := by decide +kernel

theorem witness_StepRunsTheDecodedRequest :
    (State.reset.present ⟨0x0800, 0⟩).moves = .request ⟨0x0800, 0⟩ :: [] ∧
    decode ⟨0x0800, 0⟩ = .ok .crcInit ∧ Instr.crcInit.WellFormed ∧
    decodeTableWord 16 0xE800 = some (.seti 0 false 0) ∧ State.reset.moves = [] := by decide

theorem witness_StreamingEqualsTheFunction :
    Instr.crcInit ∉ [Instr.crcByte 0x53, .seti 8 false 0, .crcByte 0x39] := by decide

theorem witness_OnlyCrcOperationsTouchTheRegister : ∃ t,
    Instr.pwr true 0 ≠ .crcInit ∧ (Instr.pwr true 0).crcData = none ∧
    exec (.pwr true 0) (session 7) = .next t := ⟨_, by decide, rfl, rfl⟩

/-- The hypothesis of `FrameLayoutIsInjective`'s second clause: equal frames. -/
theorem witness_FrameLayoutIsInjective : frame 0xABCDEF 0x0100 0x72 = frame 0xABCDEF (0x00FF + 1) (0x71 + 1) := rfl

theorem witness_ChecksumCorruptionIsDetected : ∃ t,
    (0x8000 : BitVec 16) ≠ 0 ∧ exec (.decPay 0xabcdefff720100fad4) State.reset = .next t ∧
    Answered (decoded 0xabcdefff720100fad4 {}) State.reset t ∧
    (decoded 0xabcdefff720100fad4 {}).valid = some true := ⟨_, by decide, rfl, rfl, by decide +kernel⟩

theorem witness_DecodingNeverFails :
    (∃ p, Instr.decPay 0 = .decPay p) ∧ (∃ f, Instr.decFrm 0 = .decFrm f) ∧ (∃ raw, Instr.decCap 0 = .decCap raw) :=
  ⟨⟨0, rfl⟩, ⟨0, rfl⟩, ⟨0, rfl⟩⟩

theorem witness_AlignStripsTheStrayBits : defaultStrip State.reset.cfg := by
  unfold defaultStrip; decide

/-- Vector V50 (all stray bits 1) with the bus full above it, and the smallest parts. -/
theorem witness_CaptureDecodesAsItsPayload :
    State.reset.cfg.Wf ∧ 0x7FFF < 2 ^ State.reset.cfg.leadBits ∧ 0x1FF < 2 ^ State.reset.cfg.trailBits ∧
    (0xFFFFFFFFFFffff579bdffee40201f5a9ff : Dat).toNat =
      ((0xFFFFFFFFFF * 2 ^ State.reset.cfg.leadBits + 0x7FFF) * 2 ^ 72 + (0xabcdefff720100fad4 : Payload).toNat) *
        2 ^ State.reset.cfg.trailBits + 0x1FF ∧
    (0 : Dat).toNat = ((0 * 2 ^ State.reset.cfg.leadBits + 0) * 2 ^ 72 + (0 : Payload).toNat) *
      2 ^ State.reset.cfg.trailBits + 0 := by decide +kernel

theorem witness_CodecIsIndependentOfTheSession :
    (Instr.crcByte 1).isSession = false ∧ (∀ idin, Instr.crcByte 1 ≠ .cfg idin) ∧
    (State.reset.openSession 7).cfg = State.reset.cfg ∧ (State.reset.openSession 7).crc = State.reset.crc :=
  ⟨rfl, by simp, rfl, rfl⟩

/-- At the largest legal id, and at the smallest refused one. -/
theorem witness_CfgCompletes :
    let s : State := { State.reset with answers := [true] }
    s.ses = false ∧ (0x00FFFFFF : BitVec 32).toNat ≤ 0xFFFFFF ∧ ¬ (0x01000000 : BitVec 32).toNat ≤ 0xFFFFFF ∧
    s.answer = true := by decide

/-- The clauses of `CfgCreatesTheSession`: a session, an id above the range, either answer. -/
theorem witness_CfgCreatesTheSession :
    (session 7).ses = true ∧ State.reset.ses = false ∧ 0xFFFFFF < (0x01000000 : BitVec 32).toNat ∧
    ({ State.reset with answers := [true] } : State).answer = true ∧
    ({ State.reset with answers := [false] } : State).answer = false := by decide

theorem witness_SessionBeginsByCfgAndEndsByReset :
    (∃ s t : State, step s = .next t ∧ s.ses = false ∧ t.ses = true) ∧
    (∃ s t : State, step s = .next t ∧ s.ses = true ∧ t.ses = false ∧ s.moves = [.rst]) :=
  ⟨⟨{ State.reset.present ⟨0x4000, 7⟩ with answers := [true] }, _, rfl, by decide +kernel⟩,
    ⟨{ session 7 with moves := [.rst] }, _, rfl, by decide +kernel⟩⟩

theorem witness_DeviceIdentityIsImmutable :
    (∃ s t : State, step s = .next t ∧ (∀ rest, s.moves ≠ .rst :: rest) ∧ s.ses = true) ∧
    (∃ s t : State, step s = .next t ∧ (∀ rest, s.moves ≠ .rst :: rest) ∧ t.ses = false) :=
  ⟨⟨(session 7).present ⟨0x4000, 7⟩, _, rfl, by simp [State.present], rfl⟩,
    ⟨State.reset.present ⟨0x0800, 0⟩, _, rfl, by simp [State.present], by decide +kernel⟩⟩

theorem witness_DirectOperationsSendOneFrame : (session 7).ses = true := rfl

/-- The edges of the step clamp: 15 and 16, 127 and -128. -/
theorem witness_stepMagnitude :
    stepMagnitude 0 = 0 ∧ stepMagnitude 15 = 15 ∧ stepMagnitude 16 = 15 ∧ stepMagnitude 127 = 15 ∧
    stepMagnitude 0x80 = 0 ∧ stepMagnitude 0xFF = 0 := by decide

theorem witness_LevelOperationsSaturateThenStep :
    (session 7).ses = true ∧ (0 : BitVec 8).toNat ≤ 15 ∧ (15 : BitVec 8).toNat ≤ 15 := by decide

/-- Both sides of the split at 8, and the last level. -/
theorem witness_SetIntensitySendsItsPair :
    (session 7).ses = true ∧ (7 : BitVec 8).toNat ≤ 15 ∧ (8 : BitVec 8).toNat ≤ 15 ∧ (15 : BitVec 8).toNat ≤ 15 := by
  decide

/-- The same for `SETC`. -/
theorem witness_SetColorSendsItsPair :
    (session 9).ses = true ∧ (7 : BitVec 8).toNat ≤ 15 ∧ (8 : BitVec 8).toNat ≤ 15 ∧ (15 : BitVec 8).toNat ≤ 15 := by
  decide

theorem witness_SessionOperationsNeedASession :
    (Instr.seti 16 false 0).isSession = true ∧ (Instr.pwr true 3).isSession = true ∧ State.reset.ses = false := by
  decide

theorem witness_LevelsAboveFifteenAreRefused :
    (Instr.setc 15 true 5).level = some 15 ∧ (Instr.setc 16 true 5).level = some 16 ∧ (session 7).ses = true ∧
    15 < (16 : BitVec 8).toNat ∧ (15 : BitVec 8).toNat ≤ 15 := by decide

/-- At the counter 255, from `SEQ` and explicit. -/
theorem witness_CompositeFramesHaveConsecutiveCounters :
    ∃ t t', ((session 7).setSeq 0xFF).ses = true ∧ (Instr.seti 8 false 0).level = some 8 ∧
      exec (.seti 8 false 0) ((session 7).setSeq 0xFF) = .next t ∧
      exec (.seti 8 true 0xFF) (session 7) = .next t' := ⟨_, _, rfl, rfl, rfl, rfl⟩

theorem witness_SaturationCodesOnlyLeadComposites :
    ∃ t t', (session 7).ses = true ∧ (Instr.cooler 16 true 0).isSession = true ∧
      (Instr.cooler 16 true 0).level = none ∧ exec (.cooler 16 true 0) (session 7) = .next t ∧
      (Instr.lvlHiA 0 true 0).isSession = true ∧ (Instr.lvlHiA 0 true 0).level = some 0 ∧
      exec (.lvlHiA 0 true 0) (session 7) = .next t' := ⟨_, _, rfl, rfl, rfl, rfl, rfl, rfl, rfl⟩

theorem witness_NoopTransceiverNeverFails : ∃ t r,
    ((session 7).present ⟨0x8800, 0⟩).cfg.xcvr = .noop ∧ step ((session 7).present ⟨0x8800, 0⟩) = .next t ∧
    (∀ rest, ((session 7).present ⟨0x8800, 0⟩).moves ≠ .rst :: rest) ∧
    t.responses = ((session 7).present ⟨0x8800, 0⟩).responses ++ [r] :=
  ⟨_, { n := some 1, frame0 := some (frame 7 0x0100 0) }, rfl, rfl, by simp [State.present], by decide +kernel⟩

/-- NoSession, and HardwareUnavailable, after which the transceiver has been asked. -/
theorem witness_RefusedRequestsLeaveOnlyTheirFaultBit :
    (∃ t, step (State.reset.present ⟨0x8800, 0⟩) = .next t ∧
      t.responses = (State.reset.present ⟨0x8800, 0⟩).responses ++ [{ err := 4 }]) ∧
    (∃ t, step { State.reset.present ⟨0x4000, 7⟩ with answers := [false] } = .next t ∧
      t.responses = State.reset.responses ++ [{ err := 3 }]) :=
  ⟨⟨_, rfl, by decide +kernel⟩, ⟨_, rfl, by decide +kernel⟩⟩

theorem witness_ResponsesHaveTheFieldsOfTheTable : ∃ t t',
    exec (.pwr true 1) State.reset = .next t ∧ step (State.reset.present ⟨0, 0⟩) = .next t' := ⟨_, _, rfl, rfl⟩

theorem witness_NoOperationReadsTheFaultBits : ∃ t, exec (.cfg 7) { State.reset with flt := 0x80 } = .next t :=
  ⟨_, rfl⟩

theorem witness_RequestsAreAnsweredInOrder : ∃ t,
    (State.reset.present ⟨0xFFFF, 0⟩).moves = .request ⟨0xFFFF, 0⟩ :: [] ∧
    step (State.reset.present ⟨0xFFFF, 0⟩) = .next t := ⟨_, rfl, rfl⟩

/-- With no fault and one completed request, and with a fault and a failed one, before a request that is refused. -/
theorem witness_NoFaultMeansEveryRequestCompleted : ∃ t t',
    let clean : State := { session 7 with responses := [{}] }
    let faulty : State := { session 7 with flt := 0x40, responses := [{}, { err := 6 }] }
    NoFaultIffCompleted clean ∧ step (clean.present ⟨0, 0⟩) = .next t ∧
    NoFaultIffCompleted faulty ∧ step (faulty.present ⟨0, 0⟩) = .next t' :=
  ⟨_, _, by simp [NoFaultIffCompleted, NoFault, session, State.reset], rfl, by simp [NoFaultIffCompleted, NoFault], rfl⟩

theorem witness_ResetRestoresTheStatedValues :
    ({ session 7 with moves := [.rst] } : State).moves = .rst :: [] ∧
    ∃ t, step ((session 7).present ⟨0x4000, 9⟩) = .next t ∧
      (∀ rest, ((session 7).present ⟨0x4000, 9⟩).moves ≠ .rst :: rest) ∧ (session 7).ses = true :=
  ⟨rfl, _, rfl, by simp [State.present], rfl⟩

/-- Every invariant holds at reset, and a step is taken from there. -/
theorem witness_StepKeepsInvariants : ∃ t,
    step State.reset = .next t ∧ FaultsRecorded State.reset ∧ WriteFaultsLogged State.reset ∧
    LogRepeatsFrames State.reset ∧ FramesOfSession State.reset ∧ FramesChecked State.reset :=
  ⟨_, rfl, by simp [FaultsRecorded, State.reset], by simp [WriteFaultsLogged, State.reset],
    by simp [LogRepeatsFrames, State.reset], by simp [FramesOfSession, State.reset],
    by simp [FramesChecked, State.reset]⟩

/-- A state in which every log and response is filled meets them too: a session operation whose write failed. -/
theorem witness_StepKeepsInvariants_filled :
    let f := frame 7 0x0100 0
    let s : State := { session 7 with
      flt := 0x80, txLog := [⟨f, true⟩, ⟨f, false⟩], frameLog := [f],
      responses := [{ err := 7, n := some 1, frame0 := some f }] }
    FaultsRecorded s ∧ WriteFaultsLogged s ∧ LogRepeatsFrames s ∧ FramesOfSession s ∧ FramesChecked s := by
  have hf : ChecksumOk (frame 7 0x0100 0) := by unfold ChecksumOk; decide +kernel
  have he : emittable 0x0100 = true := by decide
  refine ⟨⟨by decide, by simp, ?_⟩, ?_, ?_, ⟨by simp [session], ?_⟩, ?_, ?_⟩
  · intro n h1 h7
    interval_cases n <;> simp
  · exact ⟨fun _ => ⟨⟨frame 7 0x0100 0, false⟩, by simp, rfl⟩, fun _ => by decide⟩
  · simp [LogRepeatsFrames, session]
  · intro f hmem
    simp only [List.mem_singleton] at hmem
    exact ⟨0x0100, 0, he, hmem⟩
  · intro r hr f hmem
    simp only [List.mem_singleton] at hr
    subst hr
    simp only [Option.some.injEq, reduceCtorEq, or_false] at hmem
    subst hmem
    exact ⟨hf, 7, 0x0100, 0, rfl⟩
  · intro e hmem
    simp only [List.mem_cons, List.not_mem_nil, or_false] at hmem
    rcases hmem with rfl | rfl
    · exact ⟨hf, 7, 0x0100, 0, rfl⟩
    · exact ⟨hf, 7, 0x0100, 0, rfl⟩

theorem witness_FaultBitsAreSticky : ∃ t,
    step ({ State.reset with flt := 0x02 }.present ⟨0x8800, 0⟩) = .next t ∧
    (∀ rest, ({ State.reset with flt := 0x02 }.present ⟨0x8800, 0⟩).moves ≠ .rst :: rest) ∧
    ({ State.reset with flt := 0x02 } : State).flt.getLsbD 1 = true :=
  ⟨_, rfl, by simp [State.present], by decide⟩

end Sys2Proof.Tests
end

section
/-! PROOFS. The state family: the status port, how a session begins and ends, and the fields of a response. -/

namespace Sys2Proof.Machine

/-! ### The status port (R36) -/

/-- Settles O45: each output is its register, and `did_q` is guarded by `SES`. -/
theorem statusPortMirrorsTheRegisters : Obligations.StatusPortMirrorsTheRegisters := by
  intro s
  have hses : s.sesQ.toNat = if s.ses = true then 1 else 0 := by
    cases h : s.ses <;> simp [State.sesQ, h]
  exact ⟨hses, rfl, rfl, rfl, rfl⟩

/-! ### What an operation does to `SES` (R21) -/

/-- A refused request leaves `SES` (R196). -/
theorem RefusedWith.ses_eq {n : Nat} {s t : State} (h : RefusedWith n s t) : t.ses = s.ses := by rw [h]

/-- A session operation that sends leaves `SES` (R133, R151). -/
theorem Sent.ses_eq {fs : List (Frame × List Bool)} {x : Bool} {s t : State} (h : Sent fs x s t) :
    t.ses = s.ses := by
  obtain ⟨-, hses, -⟩ := h.rest
  exact hses

/-- A direct operation leaves `SES`. -/
@[simp] theorem send1_ses (c : Command) (x : Bool) (ctr : BitVec 8) (s : State) :
    (send1 c x ctr s).ses = s.ses := by
  cases h : s.ses with
  | false => exact (send1_noSession h c x ctr).ses_eq.trans h
  | true =>
    obtain ⟨oks, hsent⟩ := send1_sent h c x ctr
    exact hsent.ses_eq.trans h

/-- A composite operation leaves `SES`. -/
@[simp] theorem send2_ses (c : Command × Command) (l : BitVec 8) (x : Bool) (ctr : BitVec 8) (s : State) :
    (send2 c l x ctr s).ses = s.ses := by
  cases h : s.ses with
  | false => exact (send2_noSession h c l x ctr).ses_eq.trans h
  | true =>
    rcases Nat.lt_or_ge 15 l.toNat with hl | hl
    · exact (send2_invalidLevel h c hl x ctr).ses_eq.trans h
    · obtain ⟨oks0, oks1, hsent⟩ := send2_sent h c hl x ctr
      exact hsent.ses_eq.trans h

/-- Only `CFG` can write `SES` (R21). -/
theorem exec_ses_of_ne_cfg {i : Instr} {s t : State} (hi : ∀ idin, i ≠ .cfg idin) (h : exec i s = .next t) :
    t.ses = s.ses := by
  cases i with
  | crcInit | crcByte | align | enc | decCap | decPay | decFrm => cases h; rfl
  | cfg idin => exact absurd rfl (hi idin)
  | pwr | cooler | warmer | higher | lower | rset => cases h; exact send1_ses ..
  | lvlLoA | lvlHiA | lvlLoB | lvlHiB | setc | seti => cases h; exact send2_ses ..

/-- The 24 bits `CFG` keeps are the whole of a legal id (R171). -/
theorem toNat_extractLsb'_of_legalId {idin : BitVec 32} (h : idin.toNat ≤ 0xFFFFFF) :
    (idin.extractLsb' 0 24).toNat = idin.toNat := by
  rw [BitVec.extractLsb'_toNat, Nat.shiftRight_zero]
  exact Nat.mod_eq_of_lt (by omega)

/-- `CFG` leaves `SES`, or creates a session with the legal id it was given (R170). -/
theorem configure_ses (idin : BitVec 32) (s : State) :
    (configure idin s).ses = s.ses ∨
    (s.ses = false ∧ idin.toNat ≤ 0xFFFFFF ∧ s.answer = true ∧ (configure idin s).did.toNat = idin.toNat) := by
  obtain ⟨-, h⟩ | ⟨-, -, h⟩ | ⟨-, -, -, h⟩ | ⟨hs, hid, ha, h⟩ := configure_cases idin s
  · exact .inl h.ses_eq
  · exact .inl h.ses_eq
  · exact .inl h.ses_eq
  · exact .inr ⟨hs, hid, ha, by rw [h]; exact toNat_extractLsb'_of_legalId hid⟩

/-- An operation leaves `SES`, or is a successful `CFG` with a legal id (R21, R170). -/
theorem exec_ses_cases {i : Instr} {s t : State} (h : exec i s = .next t) :
    t.ses = s.ses ∨
    ∃ idin, i = .cfg idin ∧ s.ses = false ∧ idin.toNat ≤ 0xFFFFFF ∧ s.answer = true ∧
      t.did.toNat = idin.toNat := by
  by_cases hi : ∃ idin, i = .cfg idin
  · obtain ⟨idin, rfl⟩ := hi
    cases h
    exact (configure_ses idin s).imp_right fun h => ⟨idin, rfl, h⟩
  · exact .inl (exec_ses_of_ne_cfg (not_exists.mp hi) h)

/-- A step leaves `SES`, is a reset, which clears it, or runs a successful `CFG` with a legal id (R21). -/
theorem step_ses_cases {s t : State} (h : step s = .next t) :
    ((∀ rest, s.moves ≠ .rst :: rest) ∧ t.ses = s.ses) ∨
    ((∃ rest, s.moves = .rst :: rest) ∧ t.ses = false) ∨
    ∃ r rest idin, s.moves = .request r :: rest ∧ decode r = .ok (.cfg idin) ∧ s.ses = false ∧
      idin.toNat ≤ 0xFFFFFF ∧ s.answer = true ∧ t.did.toNat = idin.toNat := by
  obtain ⟨hm, rfl⟩ | ⟨rest, hm, rfl⟩ | ⟨q, rest, e, hm, -, ht⟩ | ⟨q, rest, i, hm, hd, ht⟩ := step_cases h
  · exact .inl ⟨by simp [hm], rfl⟩
  · exact .inr (.inl ⟨⟨rest, hm⟩, rfl⟩)
  · exact .inl ⟨by simp [hm], ht.ses_eq⟩
  · obtain hses | ⟨idin, rfl, hcfg⟩ := exec_ses_cases ht
    · exact .inl ⟨by simp [hm], hses⟩
    · exact .inr (.inr ⟨q, rest, idin, hm, hd, hcfg⟩)

/-- Settles O27: of the three things a step can do to `SES`, only a successful `CFG` sets it and only reset clears
it. -/
theorem sessionBeginsByCfgAndEndsByReset : Obligations.SessionBeginsByCfgAndEndsByReset := by
  intro s t h
  obtain ⟨hrst, hses⟩ | ⟨hrst, hses⟩ | ⟨q, rest, idin, hm, hd, hs, hcfg⟩ := step_ses_cases h
  · exact ⟨fun h0 h1 => by simp [hses, h0] at h1, fun h1 h0 => by simp [hses, h1] at h0,
      fun rest hm => absurd hm (hrst rest)⟩
  · exact ⟨fun _ h1 => by simp [hses] at h1, fun _ _ => hrst, fun _ _ => hses⟩
  · exact ⟨fun _ _ => ⟨q, rest, idin, hm, hd, hcfg⟩, fun h1 => by simp [hs] at h1, fun _ hrst => by simp [hm] at hrst⟩

/-! ### The fields of a response (R30) -/

/-- A response with the operation's fields is right for an operation that completed or whose writes failed. -/
theorem shapeOk_of_fieldsSet {i : Instr} {r : Response} (herr : r.err = 0 ∨ r.err = 7)
    (hfields : r.fields = Field.all.map fun f => decide (f ∈ fieldsSet i))
    (hn : ∀ n, r.n = some n → n.toNat = r.frame0.toList.length + r.frame1.toList.length) : ShapeOk i r :=
  ⟨by obtain h | h := herr <;> rw [h] <;> decide, by simpa only [herr, true_and] using hfields, hn⟩

/-- A response with nothing but an error code from 1 to 6 is right for every operation (R196). -/
theorem shapeOk_refused (i : Instr) {e : BitVec 4} (h0 : e ≠ 0) (h7 : e ≠ 7) (hle : e.toNat ≤ 7) :
    ShapeOk i { err := e } := by
  have he : ¬ (e = 0 ∨ e = 7) := not_or.mpr ⟨h0, h7⟩
  exact ⟨hle, by simp only [he, false_and, decide_false]; rfl, by simp⟩

/-- The response of one frame is right for the operations that send one. -/
theorem shapeOk_oneFrame {i : Instr} (hi : fieldsSet i = [.n, .frame0]) {e : BitVec 4} (he : e = 0 ∨ e = 7)
    (f : Frame) : ShapeOk i { err := e, n := some 1, frame0 := some f } :=
  shapeOk_of_fieldsSet he (by rw [hi]; rfl) (by rintro n ⟨⟩; rfl)

/-- The response of two frames is right for the operations that send two. -/
theorem shapeOk_twoFrames {i : Instr} (hi : fieldsSet i = [.n, .frame0, .frame1]) {e : BitVec 4}
    (he : e = 0 ∨ e = 7) (f0 f1 : Frame) : ShapeOk i { err := e, n := some 2, frame0 := some f0, frame1 := some f1 } :=
  shapeOk_of_fieldsSet he (by rw [hi]; rfl) (by rintro n ⟨⟩; rfl)

/-- From `s` to `t` one response is delivered, and it has the fields rule R30 gives `i`. -/
def AnsweredInShape (i : Instr) (s t : State) : Prop :=
  ∃ r, t.responses = s.responses ++ [r] ∧ ShapeOk i r

/-- A refusal with a code from 1 to 6 is answered in the shape of every operation. -/
theorem RefusedWith.answeredInShape {n : Nat} {s t : State} (h : RefusedWith n s t) (i : Instr) (h1 : 1 ≤ n)
    (h6 : n ≤ 6) : AnsweredInShape i s t := by
  have hn : (BitVec.ofNat 4 n).toNat = n := by simp; omega
  refine ⟨_, by rw [h], shapeOk_refused i ?_ ?_ (by omega)⟩
  · intro h0
    simp [h0] at hn
    omega
  · intro h7
    simp [h7] at hn
    omega

/-- A direct operation is answered with the fields of its row. -/
theorem send1_answeredInShape {i : Instr} (hi : fieldsSet i = [.n, .frame0]) (c : Command) (x : Bool)
    (ctr : BitVec 8) (s : State) : AnsweredInShape i s (send1 c x ctr s) := by
  cases h : s.ses with
  | false => exact (send1_noSession h c x ctr).answeredInShape i (by decide) (by decide)
  | true =>
    obtain ⟨oks, hsent⟩ := send1_sent h c x ctr
    exact ⟨_, hsent.responses, shapeOk_oneFrame hi (ite_eq_or_eq ..) _⟩

/-- A composite operation is answered with the fields of its row. -/
theorem send2_answeredInShape {i : Instr} (hi : fieldsSet i = [.n, .frame0, .frame1]) (c : Command × Command)
    (l : BitVec 8) (x : Bool) (ctr : BitVec 8) (s : State) : AnsweredInShape i s (send2 c l x ctr s) := by
  cases h : s.ses with
  | false => exact (send2_noSession h c l x ctr).answeredInShape i (by decide) (by decide)
  | true =>
    rcases Nat.lt_or_ge 15 l.toNat with hl | hl
    · exact (send2_invalidLevel h c hl x ctr).answeredInShape i (by decide) (by decide)
    · obtain ⟨oks0, oks1, hsent⟩ := send2_sent h c hl x ctr
      exact ⟨_, hsent.responses, shapeOk_twoFrames hi (ite_eq_or_eq ..) _ _⟩

/-- `CFG` is answered with `err` only, whatever becomes of it. -/
theorem configure_answeredInShape (idin : BitVec 32) (s : State) :
    AnsweredInShape (.cfg idin) s (configure idin s) := by
  obtain ⟨-, h⟩ | ⟨-, -, h⟩ | ⟨-, -, -, h⟩ | ⟨-, -, -, h⟩ := configure_cases idin s
  · exact h.answeredInShape _ (by decide) (by decide)
  · exact h.answeredInShape _ (by decide) (by decide)
  · exact h.answeredInShape (s := s.ask) _ (by decide) (by decide)
  · exact ⟨_, by rw [h]; rfl, shapeOk_of_fieldsSet (.inl rfl) rfl (by simp)⟩

/-- Every operation is answered with the fields of its row (R30). -/
theorem exec_answeredInShape {i : Instr} {s t : State} (h : exec i s = .next t) : AnsweredInShape i s t := by
  cases i with
  | crcInit | crcByte | align | decCap | decPay | decFrm =>
    cases h
    exact ⟨_, rfl, shapeOk_of_fieldsSet (.inl rfl) rfl (by simp [decoded])⟩
  | enc => cases h; exact ⟨_, rfl, shapeOk_oneFrame rfl (.inl rfl) _⟩
  | cfg => cases h; exact configure_answeredInShape ..
  | pwr | cooler | warmer | higher | lower | rset => cases h; exact send1_answeredInShape rfl ..
  | lvlLoA | lvlHiA | lvlLoB | lvlHiB | setc | seti => cases h; exact send2_answeredInShape rfl ..

/-- The step after a legal request is presented runs its operation (R41). -/
theorem step_present_ok {q : Request} {i : Instr} (h : decode q = .ok i) (s : State) :
    step (s.present q) = exec i s := by
  simp [step, takeMove, h, State.present]

/-- The step after an illegal request is presented raises IllegalRequest (R63). -/
theorem step_present_error {q : Request} {e : DecodeError} (h : decode q = .error e) (s : State) :
    step (s.present q) = .next (illegalRequest s) := by
  simp [step, takeMove, h, State.present]

/-- Settles O39: by the operations' responses, and for a request by whether its word decodes. -/
theorem responsesHaveTheFieldsOfTheTable : Obligations.ResponsesHaveTheFieldsOfTheTable := by
  refine ⟨fun i s t h => exec_answeredInShape h, fun q s t h => ?_⟩
  cases hd : decode q with
  | ok i =>
    rw [step_present_ok hd] at h
    obtain ⟨r, hr, hshape⟩ := exec_answeredInShape h
    exact ⟨r, hr, .inl ⟨i, rfl, hshape⟩⟩
  | error e =>
    rw [step_present_error hd] at h
    cases h
    exact ⟨_, rfl, .inr ⟨⟨e, rfl⟩, rfl⟩⟩

end Sys2Proof.Machine
end

section
/-! PROOFS. The encoding family: the fields of a control word as numbers, the two formats, what the decoder does by
operation number, and from these the rows of the opcode table and the illegal words. -/

namespace Sys2Proof.Machine

/-! ### The fields of a control word as numbers (R60) -/

/-- `op` is the control word without its low eleven bits. -/
theorem toNat_ctlOp (ctl : Ctl) : (ctlOp ctl).toNat = ctl.toNat / 2048 := by
  rw [ctlOp, BitVec.extractLsb'_toNat, Nat.shiftRight_eq_div_pow]
  omega

/-- `x` is bit 10 of the control word. -/
theorem ctlX_eq (ctl : Ctl) : ctlX ctl = (ctl.toNat / 1024 % 2 == 1) :=
  Nat.testBit_eq_decide_div_mod_eq

/-- `ctr` is the low byte of the control word. -/
theorem ctlCtr_eq (ctl : Ctl) : ctlCtr ctl = BitVec.ofNat 8 ctl.toNat := rfl

/-- A word of format N has `ctl[10:0]` at 0. -/
theorem formatNBits_eq_zero_iff (ctl : Ctl) : ctl.extractLsb' 0 11 = 0 ↔ ctl.toNat % 2048 = 0 :=
  BitVec.toNat_inj.symm

/-- A word of format S has `ctl[9:8]` at 0. -/
theorem formatSBits_eq_zero_iff (ctl : Ctl) : ctl.extractLsb' 8 2 = 0 ↔ ctl.toNat / 256 % 4 = 0 := by
  rw [← BitVec.toNat_inj, BitVec.extractLsb'_toNat, Nat.shiftRight_eq_div_pow]
  rfl

/-- Case (4) of rule R63 does not apply. -/
theorem counterOk_fields_iff (ctl : Ctl) :
    counterOk (ctlX ctl) (ctlCtr ctl) ↔ (ctl.toNat / 1024 % 2 = 0 → ctl.toNat % 256 = 0) := by
  refine imp_congr ?_ BitVec.toNat_inj.symm
  rw [ctlX_eq, beq_eq_false_iff_ne]
  omega

/-! ### The operands as numbers (R61) -/

theorem datByte_eq (dat : Dat) : datByte dat = BitVec.ofNat 8 dat.toNat := rfl

theorem datEncId_eq (dat : Dat) : datEncId dat = BitVec.ofNat 24 (dat.toNat / 2 ^ 24) :=
  congrArg _ (Nat.shiftRight_eq_div_pow ..)

theorem datEncCmd_eq (dat : Dat) : datEncCmd dat = BitVec.ofNat 16 (dat.toNat / 2 ^ 8) :=
  congrArg _ (Nat.shiftRight_eq_div_pow ..)

theorem datPayload_eq (dat : Dat) : datPayload dat = BitVec.ofNat 72 dat.toNat := rfl

theorem datIdin_eq (dat : Dat) : datIdin dat = BitVec.ofNat 32 dat.toNat := rfl

/-! ### The two formats (R60, R63) -/

/-- A legal word of format S carries its `x` and `ctr`. -/
theorem formatS_ok {ctl : Ctl} (op : Bool → BitVec 8 → Instr) (hbits : ctl.extractLsb' 8 2 = 0)
    (hctr : counterOk (ctlX ctl) (ctlCtr ctl)) : formatS ctl op = .ok (op (ctlX ctl) (ctlCtr ctl)) := by
  have hcase4 : ¬ (ctlX ctl = false ∧ ctlCtr ctl ≠ 0) := fun ⟨hx, hne⟩ => hne (hctr hx)
  rw [formatS, if_neg (not_not.mpr hbits), if_neg hcase4]

/-- Format N refuses case (2) of rule R63 and nothing else. -/
theorem formatN_ok_iff (ctl : Ctl) (i : Instr) : (∃ j, formatN ctl i = .ok j) ↔ ctl.toNat % 2048 = 0 := by
  rw [← formatNBits_eq_zero_iff, formatN]
  split
  next h => exact ⟨fun _ => h, fun _ => ⟨i, rfl⟩⟩
  next h => exact ⟨nofun, fun h0 => absurd h0 h⟩

/-- Format S refuses cases (3) and (4) of rule R63 and nothing else. -/
theorem formatS_ok_iff (ctl : Ctl) (op : Bool → BitVec 8 → Instr) : (∃ j, formatS ctl op = .ok j) ↔
    ctl.toNat / 256 % 4 = 0 ∧ (ctl.toNat / 1024 % 2 = 0 → ctl.toNat % 256 = 0) := by
  rw [← formatSBits_eq_zero_iff, ← counterOk_fields_iff]
  refine ⟨fun ⟨j, hj⟩ => ?_, fun ⟨hbits, hctr⟩ => ⟨_, formatS_ok op hbits hctr⟩⟩
  unfold formatS at hj
  split at hj
  next => cases hj
  next hbits =>
    split at hj
    next => cases hj
    next hctr => exact ⟨not_not.mp hbits, fun hx => by_contra fun hne => hctr ⟨hx, hne⟩⟩

/-! ### The decoder by operation number (R62) -/

/-- Eight numbers are of format N, twelve of format S, and twelve are reserved. -/
theorem decode_cases (q : Request) :
    ((1 ≤ (ctlOp q.ctl).toNat ∧ (ctlOp q.ctl).toNat ≤ 8) ∧ ∃ i, decode q = formatN q.ctl i) ∨
    ((0x11 ≤ (ctlOp q.ctl).toNat ∧ (ctlOp q.ctl).toNat ≤ 0x16 ∨
      0x18 ≤ (ctlOp q.ctl).toNat ∧ (ctlOp q.ctl).toNat ≤ 0x1D) ∧ ∃ op, decode q = formatS q.ctl op) ∨
    (((ctlOp q.ctl).toNat = 0 ∨ 9 ≤ (ctlOp q.ctl).toNat ∧ (ctlOp q.ctl).toNat ≤ 0x10 ∨
      (ctlOp q.ctl).toNat = 0x17 ∨ 0x1E ≤ (ctlOp q.ctl).toNat) ∧ decode q = .error .reservedOp) := by
  unfold decode
  generalize ctlOp q.ctl = n
  split
  case h_1 | h_2 | h_3 | h_4 | h_5 | h_6 | h_7 | h_8 => exact .inl ⟨by decide, _, rfl⟩
  case h_9 | h_10 | h_11 | h_12 | h_13 | h_14 | h_15 | h_16 | h_17 | h_18 | h_19 | h_20 =>
    exact .inr (.inl ⟨by decide, _, rfl⟩)
  case h_21 => exact .inr (.inr ⟨by simp only [imp_false] at *; bv_omega, rfl⟩)

/-! ### Illegal words (R63) -/

/-- The words that decode are those left over by the four cases of rule R63. -/
theorem decode_ok_iff (q : Request) : (∃ i, decode q = .ok i) ↔ LegalWord q.ctl := by
  unfold LegalWord
  rw [← toNat_ctlOp]
  obtain ⟨hn, i, hd⟩ | ⟨hn, op, hd⟩ | ⟨hn, hd⟩ := decode_cases q
  · rw [hd, formatN_ok_iff]
    omega
  · rw [hd, formatS_ok_iff]
    omega
  · rw [hd]
    exact ⟨nofun, by omega⟩

/-- Settles O5: a word is illegal exactly when the decoder refuses it, and the step that refuses it raises
IllegalRequest. -/
theorem illegalWordsAreRefused : Obligations.IllegalWordsAreRefused := by
  refine ⟨decode_ok_iff, by decide, fun s q hillegal => ?_⟩
  cases hd : decode q with
  | ok i => exact absurd ((decode_ok_iff q).mp ⟨i, hd⟩) hillegal
  | error e => exact ⟨_, step_present_error hd s, raise_refused .illegalRequest s⟩

/-! ### The rows of the opcode table (R62) -/

/-- A word that meets a row of format N is the row's match. -/
theorem eq_of_maskN {ctl m : Ctl} (h : ctl &&& 0xFFFF = m) : ctl = m := BitVec.and_allOnes.symm.trans h

/-- A word that meets a row of format S agrees with the row's match in `op` and `ctl[9:8]`. -/
theorem fields_of_maskS {ctl m : Ctl} (h : ctl &&& 0xFB00 = m) :
    ctlOp ctl = ctlOp m ∧ ctl.extractLsb' 8 2 = m.extractLsb' 8 2 := by
  subst h
  exact ⟨(BitVec.extractLsb'_and.trans BitVec.and_allOnes).symm,
    (BitVec.extractLsb'_and.trans BitVec.and_allOnes).symm⟩

/-- A word that meets a row of format N decodes to the operation of the row's number. -/
theorem decode_of_maskN {ctl m : Ctl} {dat : Dat} {i : Instr} (hm : ctlOp m = i.opNumber)
    (hzero : m.extractLsb' 0 11 = 0) (hrow : ∀ c, ctlOp c = i.opNumber → decode ⟨c, dat⟩ = formatN c i)
    (h : ctl &&& 0xFFFF = m) : decode ⟨ctl, dat⟩ = .ok i := by
  rw [eq_of_maskN h, hrow m hm, formatN, if_pos hzero]

/-- A word that meets a row of format S, and not case (4) of rule R63, decodes to the operation of the row's number
with its own `x` and `ctr`. -/
theorem decode_of_maskS {ctl m : Ctl} {dat : Dat} {op : Bool → BitVec 8 → Instr}
    (hctr : counterOk (ctlX ctl) (ctlCtr ctl)) (hm : ctlOp m = (op false 0).opNumber)
    (hzero : m.extractLsb' 8 2 = 0)
    (hrow : ∀ c, ctlOp c = (op false 0).opNumber → decode ⟨c, dat⟩ = formatS c op) (h : ctl &&& 0xFB00 = m) :
    decode ⟨ctl, dat⟩ = .ok (op (ctlX ctl) (ctlCtr ctl)) := by
  obtain ⟨hop, hbits⟩ := fields_of_maskS h
  rw [hrow ctl (hop.trans hm), formatS_ok op (hbits.trans hzero) hctr]

/-- Settles O2: a row of format N fixes the word, and a row of format S fixes its number and its two zero bits; the
decoder's equation for that number gives the operation. -/
theorem tableRowsSelectTheirOperations : Obligations.TableRowsSelectTheirOperations := by
  intro ctl dat
  dsimp only
  rw [← ctlX_eq, ← ctlCtr_eq, ← datByte_eq, ← datEncId_eq, ← datEncCmd_eq, ← datPayload_eq, ← datIdin_eq]
  refine ⟨?_, ?_, ?_, ?_, ?_, ?_, ?_, ?_, fun hctr => ⟨?_, ?_, ?_, ?_, ?_, ?_, ?_, ?_, ?_, ?_, ?_, ?_⟩⟩
  iterate 8
    exact decode_of_maskN rfl rfl fun c hop => by
      simp only [decode, hop, Instr.opNumber, BitVec.ofNat_eq_ofNat]
  iterate 12
    exact decode_of_maskS hctr rfl rfl fun c hop => by
      simp only [decode, hop, Instr.opNumber, BitVec.ofNat_eq_ofNat]

end Sys2Proof.Machine
end

section
/-! PROOFS. The CRC family: what an operation folds into `CRC`, the bytes of a concatenation, and from these the
streaming form and the residue. -/

namespace Sys2Proof.Machine

/-! ### What an operation does to `CRC` (R24, R35) -/

/-- A refused request leaves `CRC` (R196). -/
theorem RefusedWith.crc_eq {n : Nat} {s t : State} (h : RefusedWith n s t) : t.crc = s.crc := by rw [h]

/-- A session operation that sends leaves `CRC` (R133, R151). -/
theorem Sent.crc_eq {fs : List (Frame × List Bool)} {x : Bool} {s t : State} (h : Sent fs x s t) :
    t.crc = s.crc := by
  obtain ⟨-, -, -, hcrc, -⟩ := h.rest
  exact hcrc

/-- A direct operation leaves `CRC`. -/
@[simp] theorem send1_crc (c : Command) (x : Bool) (ctr : BitVec 8) (s : State) :
    (send1 c x ctr s).crc = s.crc := by
  cases h : s.ses with
  | false => exact (send1_noSession h c x ctr).crc_eq
  | true =>
    obtain ⟨oks, hsent⟩ := send1_sent h c x ctr
    exact hsent.crc_eq

/-- A composite operation leaves `CRC`. -/
@[simp] theorem send2_crc (c : Command × Command) (l : BitVec 8) (x : Bool) (ctr : BitVec 8) (s : State) :
    (send2 c l x ctr s).crc = s.crc := by
  cases h : s.ses with
  | false => exact (send2_noSession h c l x ctr).crc_eq
  | true =>
    rcases Nat.lt_or_ge 15 l.toNat with hl | hl
    · exact (send2_invalidLevel h c hl x ctr).crc_eq
    · obtain ⟨oks0, oks1, hsent⟩ := send2_sent h c hl x ctr
      exact hsent.crc_eq

/-- `CFG` leaves `CRC`, whatever becomes of it. -/
@[simp] theorem configure_crc (idin : BitVec 32) (s : State) : (configure idin s).crc = s.crc := by
  obtain ⟨-, h⟩ | ⟨-, -, h⟩ | ⟨-, -, -, h⟩ | ⟨-, -, -, h⟩ := configure_cases idin s
  · exact h.crc_eq
  · exact h.crc_eq
  · exact h.crc_eq
  · rw [h]; rfl

/-- An operation other than `CRC.INIT` folds into `CRC` the byte it gives, if it gives one. -/
theorem exec_crc {i : Instr} {s t : State} (hi : i ≠ .crcInit) (h : exec i s = .next t) :
    t.crc = i.crcData.toList.foldl crcByte s.crc := by
  cases i with
  | crcInit => exact absurd rfl hi
  | crcByte | align | enc | decCap | decPay | decFrm => cases h; rfl
  | cfg => cases h; exact configure_crc ..
  | pwr | cooler | warmer | higher | lower | rset => cases h; exact send1_crc ..
  | lvlLoA | lvlHiA | lvlLoB | lvlHiB | setc | seti => cases h; exact send2_crc ..

/-- A run goes on from where its first operation ends. -/
theorem runOps_cons {i : Instr} {s u : State} (h : exec i s = .next u) (rest : List Instr) :
    runOps (i :: rest) s = runOps rest u := by rw [runOps, h]

/-- A run without `CRC.INIT` completes and folds into `CRC` the bytes its operations give, in order. -/
theorem runOps_crc (is : List Instr) (s : State) (hinit : .crcInit ∉ is) :
    ∃ t, runOps is s = some t ∧ t.crc = (is.filterMap Instr.crcData).foldl crcByte s.crc := by
  induction is generalizing s with
  | nil => exact ⟨s, rfl, rfl⟩
  | cons i rest ih =>
    obtain ⟨hi, hrest⟩ := List.ne_and_not_mem_of_not_mem_cons hinit
    obtain ⟨u, hu, -⟩ := exec_effect i s
    obtain ⟨t, ht, hcrc⟩ := ih u hrest
    refine ⟨t, (runOps_cons hu _).trans ht, ?_⟩
    rw [hcrc, exec_crc (Ne.symm hi) hu]
    cases hd : i.crcData <;> simp [hd]

/-! ### The bytes of a concatenation (R13) -/

/-- The bytes of `x ++ y` are those of `x` and then those of `y`, where `y` is whole bytes. -/
theorem bytesBE_append (m n : Nat) {w v : Nat} (hv : v = 8 * n) (x : BitVec w) (y : BitVec v) :
    bytesBE (m + n) (x ++ y) = bytesBE m x ++ bytesBE n y := by
  simp only [bytesBE, List.range_add, List.map_append, List.map_map]
  congr 1 <;> refine List.map_congr_left fun k hk => ?_ <;> rw [List.mem_range] at hk
  · rw [BitVec.extractLsb'_append_eq_of_le (by omega)]
    congr 1
    omega
  · rw [Function.comp_apply, BitVec.extractLsb'_append_eq_of_add_le (by omega)]
    congr 1
    omega

/-- A byte is its own byte sequence. -/
@[simp] theorem bytesBE_one (b : Byte) : bytesBE 1 b = [b] := by simp [bytesBE]

/-- The bytes a checksum covers: preamble, id, separator, counter, command (R100). -/
theorem bytesBE_message (id : DeviceId) (cmd : Command) (k : BitVec 8) :
    bytesBE 15 (message id cmd k) = bytesBE 8 preamble ++ (bytesBE 3 id ++ [0xFF, k] ++ bytesBE 2 cmd) := by
  calc bytesBE 15 (message id cmd k)
      = bytesBE 13 (preamble ++ id ++ separator ++ k) ++ bytesBE 2 cmd := bytesBE_append 13 2 rfl ..
    _ = bytesBE 12 (preamble ++ id ++ separator) ++ bytesBE 1 k ++ bytesBE 2 cmd := by rw [bytesBE_append 12 1 rfl]
    _ = bytesBE 11 (preamble ++ id) ++ bytesBE 1 separator ++ bytesBE 1 k ++ bytesBE 2 cmd := by
      rw [bytesBE_append 11 1 rfl]
    _ = bytesBE 8 preamble ++ bytesBE 3 id ++ bytesBE 1 separator ++ bytesBE 1 k ++ bytesBE 2 cmd := by
      rw [bytesBE_append 8 3 rfl]
    _ = bytesBE 8 preamble ++ (bytesBE 3 id ++ [0xFF, k] ++ bytesBE 2 cmd) := by simp [separator]

/-- The bytes of a frame: those of its message and then those of its checksum (R100). -/
theorem bytesBE_frame (id : DeviceId) (cmd : Command) (k : BitVec 8) :
    bytesBE 17 (frame id cmd k) =
      bytesBE 15 (message id cmd k) ++ bytesBE 2 (crc16 (bytesBE 15 (message id cmd k))) :=
  bytesBE_append 15 2 rfl ..

/-! ### Streaming (R95) -/

/-- The CRC of a concatenation folds its second part on (R92). -/
theorem crc16_append (u v : List Byte) : crc16 (u ++ v) = v.foldl crcByte (crc16 u) := List.foldl_append

/-- The register after the preamble (R95). -/
theorem crc16_preamble : crc16 (bytesBE 8 preamble) = 0xDE39 := by decide +kernel

/-- Settles O11: `CRC.INIT` loads the register that a run folds on from, and a frame's bytes begin with the
preamble. -/
theorem streamingEqualsTheFunction : Obligations.StreamingEqualsTheFunction := by
  refine ⟨fun s is hinit => ?_, crc16_append, crc16_preamble, fun id cmd k => ?_⟩
  · obtain ⟨u, hu, hcrc⟩ : ∃ u, exec .crcInit s = .next u ∧ u.crc = crcInitValue := ⟨_, rfl, rfl⟩
    obtain ⟨t, ht, hfold⟩ := runOps_crc is u hinit
    exact ⟨t, (runOps_cons hu _).trans ht, by rw [hfold, hcrc, crc16]⟩
  · rw [frame_checksum, bytesBE_message, crc16_append, crc16_preamble]

/-! ### Residue (R96) -/

/-- A data bit equal to the register's top bit cancels it: the register only shifts. -/
theorem crcBit_of_eq_top {r : BitVec 16} {d : Bool} (h : d = r.getLsbD 15) : crcBit r d = r <<< 1 := by
  simp [crcBit, h]

/-- The register's next bit from the top, fed to it after `k` such bits, shifts it once more. -/
theorem crcBit_shiftLeft (r : BitVec 16) {k : Nat} (hk : k < 16) :
    crcBit (r <<< k) (r.getLsbD (15 - k)) = r <<< (k + 1) := by
  have htop : r.getLsbD (15 - k) = (r <<< k).getLsbD 15 := by
    rw [BitVec.getLsbD_shiftLeft]
    simp [Nat.not_lt.mpr (Nat.le_of_lt_succ hk)]
  rw [crcBit_of_eq_top htop, BitVec.shiftLeft_add]

/-- The register's upper `n` bits, fed to it from the top, shift it `n` times. -/
theorem foldl_crcBit_top (r : BitVec 16) {n : Nat} (hn : n ≤ 16) :
    (List.range n).foldl (fun acc k => crcBit acc (r.getLsbD (15 - k))) r = r <<< n := by
  induction n with
  | zero => simp
  | succ k ih =>
    rw [List.range_succ, List.foldl_append, ih (Nat.le_of_lt hn)]
    exact crcBit_shiftLeft r hn

/-- A byte equal to the register's upper byte shifts that byte out. -/
theorem crcByte_upper (r : BitVec 16) : crcByte r (r.extractLsb' 8 8) = r <<< 8 := by
  have htop : crcByte r (r.extractLsb' 8 8) =
      (List.range 8).foldl (fun acc k => crcBit acc (r.getLsbD (15 - k))) r := by
    simp only [crcByte, List.foldl_cons, BitVec.getLsbD_extractLsb']
    rfl
  rw [htop, foldl_crcBit_top r (by decide)]

/-- The register's own two bytes, fed to it, leave 0. -/
theorem foldl_crcByte_own_bytes (r : BitVec 16) : (bytesBE 2 r).foldl crcByte r = 0 := by
  have hlower : r.extractLsb' 0 8 = (r <<< 8).extractLsb' 8 8 := by
    apply BitVec.eq_of_getLsbD_eq
    intro i hi
    simp only [BitVec.getLsbD_extractLsb', BitVec.getLsbD_shiftLeft]
    simp [show 8 + i < 16 by omega]
  calc (bytesBE 2 r).foldl crcByte r
      = crcByte (crcByte r (r.extractLsb' 8 8)) (r.extractLsb' 0 8) := rfl
    _ = r <<< 8 <<< 8 := by rw [crcByte_upper, hlower, crcByte_upper]
    _ = 0 := by rw [← BitVec.shiftLeft_add]; exact BitVec.shiftLeft_eq_zero (by decide)

/-- A message followed by its own checksum has checksum 0. -/
theorem crc16_append_checksum (u : List Byte) : crc16 (u ++ bytesBE 2 (crc16 u)) = 0 := by
  rw [crc16_append, foldl_crcByte_own_bytes]

/-- Settles O12: the checksum's bytes shift the register out, and a frame's bytes are a message's and its checksum's. -/
theorem messageWithChecksumHasResidueZero : Obligations.MessageWithChecksumHasResidueZero :=
  ⟨crc16_append_checksum, fun id cmd k => by rw [bytesBE_frame, crc16_append_checksum]⟩

end Sys2Proof.Machine
end

section
/-! PROOFS. The codec family: where a frame holds its fields, what a decode answers in the fields of its payload, and
from these the layout, the round trip and the checksum's guard. -/

namespace Sys2Proof.Machine

/-! ### The fields of a frame (R70, R100) -/

section Fields

variable (id : DeviceId) (cmd : Command) (k : BitVec 8)

/-- Above its checksum a frame is its message. -/
theorem extractLsb'_frame {start : Nat} (h : 16 ≤ start) (len : Nat) :
    (frame id cmd k).extractLsb' start len = (message id cmd k).extractLsb' (start - 16) len :=
  BitVec.extractLsb'_append_eq_of_le h

/-- Above its command a message is the preamble, the id, the separator and the counter. -/
theorem extractLsb'_message {start : Nat} (h : 16 ≤ start) (len : Nat) :
    (message id cmd k).extractLsb' start len = (preamble ++ id ++ separator ++ k).extractLsb' (start - 16) len :=
  BitVec.extractLsb'_append_eq_of_le h

@[simp] theorem frame_command : (frame id cmd k).extractLsb' 16 16 = cmd := by
  rw [extractLsb'_frame _ _ _ (by decide)]
  exact BitVec.extractLsb'_append_eq_right

@[simp] theorem frame_counter : (frame id cmd k).extractLsb' 32 8 = k := by
  rw [extractLsb'_frame _ _ _ (by decide), extractLsb'_message _ _ _ (by decide)]
  exact BitVec.extractLsb'_append_eq_right

@[simp] theorem frame_separator : (frame id cmd k).extractLsb' 40 8 = separator := by
  rw [extractLsb'_frame _ _ _ (by decide), extractLsb'_message _ _ _ (by decide),
    BitVec.extractLsb'_append_eq_of_le (by decide)]
  exact BitVec.extractLsb'_append_eq_right

@[simp] theorem frame_id : (frame id cmd k).extractLsb' 48 24 = id := by
  rw [extractLsb'_frame _ _ _ (by decide), extractLsb'_message _ _ _ (by decide),
    BitVec.extractLsb'_append_eq_of_le (by decide), BitVec.extractLsb'_append_eq_of_le (by decide)]
  exact BitVec.extractLsb'_append_eq_right

@[simp] theorem frame_preamble : (frame id cmd k).extractLsb' 72 64 = preamble := by
  rw [extractLsb'_frame _ _ _ (by decide), extractLsb'_message _ _ _ (by decide),
    BitVec.extractLsb'_append_eq_of_le (by decide), BitVec.extractLsb'_append_eq_of_le (by decide)]
  exact BitVec.extractLsb'_append_eq_left

end Fields

/-- Equal frames are of equal triples: each part of the triple stands in bits of its own. -/
theorem frame_injective {id id' : DeviceId} {cmd cmd' : Command} {k k' : BitVec 8}
    (h : frame id cmd k = frame id' cmd' k') : id = id' ∧ cmd = cmd' ∧ k = k' :=
  ⟨by rw [← frame_id id cmd k, h, frame_id], by rw [← frame_command id cmd k, h, frame_command],
    by rw [← frame_counter id cmd k, h, frame_counter]⟩

/-- Settles O15: the fields one by one, and injectivity from them. -/
theorem frameLayoutIsInjective : Obligations.FrameLayoutIsInjective :=
  ⟨fun id cmd k => ⟨frame_preamble .., frame_id .., frame_separator .., frame_counter .., frame_command ..,
    by rw [frame_message, frame_checksum]⟩, fun _ _ _ _ _ _ => frame_injective⟩

/-! ### What a decode answers, in the fields of its payload (R103) -/

/-- The four fields above the checksum stand next to each other (R71). -/
theorem preamble_append_fields (p : Payload) :
    preamble ++ p.extractLsb' 48 24 ++ p.extractLsb' 40 8 ++ p.extractLsb' 32 8 ++ p.extractLsb' 16 16 =
      preamble ++ p.extractLsb' 16 56 := by
  have join (lo n : Nat) {m : Nat} : p.extractLsb' (lo + n) m ++ p.extractLsb' lo n = p.extractLsb' lo (m + n) :=
    BitVec.extractLsb'_append_extractLsb'_eq_extractLsb' rfl
  calc preamble ++ p.extractLsb' 48 24 ++ p.extractLsb' 40 8 ++ p.extractLsb' 32 8 ++ p.extractLsb' 16 16
      = preamble ++ (p.extractLsb' 48 24 ++ (p.extractLsb' 40 8 ++ (p.extractLsb' 32 8 ++ p.extractLsb' 16 16))) := by
        simp only [BitVec.append_assoc, BitVec.cast_eq]
    _ = preamble ++ p.extractLsb' 16 56 := by rw [join 16 16, join 16 24, join 16 32]

/-- `valid` compares the checksum of the constant preamble and the four decoded fields with the decoded one. -/
theorem check_eq (p : Payload) :
    check p = (crc16 (bytesBE 15 (preamble ++ p.extractLsb' 48 24 ++ p.extractLsb' 40 8 ++ p.extractLsb' 32 8 ++
      p.extractLsb' 16 16)) == p.extractLsb' 0 16) := by
  rw [preamble_append_fields, check]

/-- A payload is valid exactly when its checksum is the recomputed one. -/
theorem check_iff (p : Payload) :
    check p = true ↔ crc16 (bytesBE 15 (preamble ++ p.extractLsb' 16 56)) = p.extractLsb' 0 16 := by
  rw [check, beq_iff_eq]

/-! ### Decoding never fails (R108, R193) -/

/-- An operation that answers a decoded payload completes with every field of its row, `valid` being the comparison
of the checksums. -/
theorem decode_completes {s : State} {i : Instr} {p : Payload} {r : Response}
    (h : exec i s = .next (complete (decoded p r) s)) :
    ∃ t r, exec i s = .next t ∧ Answered r s t ∧ r.err = 0 ∧ ShapeOk i r ∧
      ∃ id sep ctr cmd chk, r.id = some id ∧ r.sep = some sep ∧ r.ctr = some ctr ∧ r.cmd = some cmd ∧
        r.chk = some chk ∧ r.valid = some (crc16 (bytesBE 15 (preamble ++ id ++ sep ++ ctr ++ cmd)) == chk) := by
  obtain ⟨r', hresponses, hshape⟩ := exec_answeredInShape h
  obtain rfl : { decoded p r with err := 0 } = r' := by simpa [complete] using hresponses
  exact ⟨_, _, h, complete_eq s _, rfl, hshape, _, _, _, _, _, rfl, rfl, rfl, rfl, rfl, congrArg some (check_eq p)⟩

/-- Settles O21: each of the three decodes answers a decoded payload. -/
theorem decodingNeverFails : Obligations.DecodingNeverFails := by
  rintro s i (⟨p, rfl⟩ | ⟨f, rfl⟩ | ⟨raw, rfl⟩)
  · exact decode_completes rfl
  · exact decode_completes rfl
  · exact decode_completes rfl

/-! ### Round trip (R105) -/

/-- A frame's payload decodes to the frame's triple, and is valid. -/
theorem decoded_frame (id : DeviceId) (cmd : Command) (k : BitVec 8) (r : Response) :
    decoded ((frame id cmd k).extractLsb' 0 72) r =
      { r with
        id := some id, sep := some separator, ctr := some k, cmd := some cmd,
        chk := some (crc16 (bytesBE 15 (message id cmd k))), valid := some true } := by
  simp (disch := decide) only [decoded, check_eq, BitVec.extractLsb'_extractLsb'_of_le, frame_id, frame_separator,
    frame_counter, frame_command, frame_checksum]
  rw [← message, beq_self_eq_true]

/-- The preamble of a frame is accepted (R104). -/
theorem preambleOk_frame (id : DeviceId) (cmd : Command) (k : BitVec 8) : preambleOk (frame id cmd k) = true := by
  rw [preambleOk, frame_preamble, beq_self_eq_true]

/-- Settles O19: both decodes answer the decoded payload of the frame. -/
theorem decodeOfEncRoundTrip : Obligations.DecodeOfEncRoundTrip := by
  intro s id cmd k
  dsimp only
  rw [frame_message]
  refine ⟨⟨_, rfl, ?_⟩, _, rfl, ?_⟩
  · rw [decoded_frame, preambleOk_frame]
    exact complete_eq s _
  · rw [decoded_frame]
    exact complete_eq s _

/-! ### Corruption of the checksum (R107) -/

/-- The response delivered between two states is one only (R47). -/
theorem Answered.unique {r r' : Response} {s t : State} (h : Answered r s t) (h' : Answered r' s t) : r = r' := by
  cases h
  simpa [Answered] using h'

/-- A change of the checksum bits leaves every field above them. -/
theorem extractLsb'_xor_checksum (p : Payload) (d : BitVec 16) {start len : Nat} (hlo : 16 ≤ start)
    (hhi : start + len ≤ 72) : (p ^^^ d.setWidth 72).extractLsb' start len = p.extractLsb' start len := by
  have habove : d.extractLsb' start len = 0#len := by
    apply BitVec.eq_of_getLsbD_eq
    intro i _
    simp [BitVec.getLsbD_of_ge d (start + i) (by omega)]
  rw [BitVec.extractLsb'_xor, BitVec.extractLsb'_setWidth_of_le hhi, habove, BitVec.xor_zero]

/-- A change of the checksum bits changes the checksum by the same bits. -/
theorem extractLsb'_xor_checksum_low (p : Payload) (d : BitVec 16) :
    (p ^^^ d.setWidth 72).extractLsb' 0 16 = p.extractLsb' 0 16 ^^^ d := by
  rw [BitVec.extractLsb'_xor, BitVec.extractLsb'_setWidth_of_le (by decide), BitVec.extractLsb'_eq_self]

/-- The recomputed checksum does not depend on the received one, so no non-zero change of a valid payload's checksum
is valid. -/
theorem check_xor_checksum {p : Payload} {d : BitVec 16} (hd : d ≠ 0) (hvalid : check p = true) :
    check (p ^^^ d.setWidth 72) = false := by
  rw [check, extractLsb'_xor_checksum p d (by decide) (by decide), extractLsb'_xor_checksum_low,
    (check_iff p).mp hvalid, beq_eq_false_iff_ne]
  intro heq
  exact hd ((BitVec.xor_right_inj _).mp (heq.symm.trans BitVec.xor_zero.symm))

/-- A non-zero change of a valid payload's checksum shows in `chk` and in `valid`, and in no other field. -/
theorem decoded_xor_checksum {p : Payload} {d : BitVec 16} (hd : d ≠ 0) (hvalid : check p = true) (r : Response) :
    decoded (p ^^^ d.setWidth 72) r =
      { decoded p r with valid := some false, chk := (decoded p r).chk.map (· ^^^ d) } := by
  simp (disch := decide) only [decoded, extractLsb'_xor_checksum, extractLsb'_xor_checksum_low,
    check_xor_checksum hd hvalid, Option.map_some]

/-- Settles O20: the response is that of the decoded payload, and `decoded_xor_checksum` says what the change does
to it. -/
theorem checksumCorruptionIsDetected : Obligations.ChecksumCorruptionIsDetected := by
  intro s t p r d hd hexec hr hvalid
  cases hexec
  obtain rfl : r = { decoded p {} with err := 0 } := hr.unique (complete_eq s _)
  have hcheck : check p = true := Option.some.inj hvalid
  refine ⟨_, rfl, ?_⟩
  rw [decoded_xor_checksum hd hcheck]
  exact complete_eq s _

end Sys2Proof.Machine
end

section
/-! PROOFS. The capture family: what stripping reads of a capture, and from it that a capture of a payload answers as
the payload does. -/

namespace Sys2Proof.Machine

/-! ### Stripping (R121) -/

/-- With legal counts the 72 bits above the trailing part lie inside the capture, so cutting the capture off the bus
loses none of them (R120, R121). -/
theorem strip_eq_extractLsb' {c : Config} (hc : c.Wf) (raw : Dat) : strip c raw = raw.extractLsb' c.trailBits 72 := by
  obtain ⟨-, hsum, -⟩ := hc
  apply BitVec.eq_of_getLsbD_eq
  intro j hj
  have hin : c.trailBits + j < c.capBits := by omega
  simp only [getLsbD_strip c raw hj, BitVec.getLsbD_extractLsb', hj, hin]

/-- Stripping gives back the payload between a trailing part and anything (`m`) above it (R123). -/
theorem strip_of_toNat {c : Config} (hc : c.Wf) {raw : Dat} {p : Payload} {m b : Nat} (hb : b < 2 ^ c.trailBits)
    (hraw : raw.toNat = (m * 2 ^ 72 + p.toNat) * 2 ^ c.trailBits + b) : strip c raw = p := by
  have hshift : raw.toNat / 2 ^ c.trailBits = m * 2 ^ 72 + p.toNat := by
    rw [hraw, Nat.mul_comm, Nat.mul_add_div (Nat.two_pow_pos _), Nat.div_eq_of_lt hb, Nat.add_zero]
  apply BitVec.eq_of_toNat_eq
  calc (strip c raw).toNat
      = raw.toNat / 2 ^ c.trailBits % 2 ^ 72 := by
        rw [strip_eq_extractLsb' hc, BitVec.extractLsb'_toNat, Nat.shiftRight_eq_div_pow]
    _ = p.toNat := by rw [hshift, Nat.mul_add_mod_self_right, Nat.mod_eq_of_lt p.isLt]

/-! ### A capture answers as its payload (R123) -/

/-- Settles O23: the leading part and what stands above the capture are both above the payload, and stripping drops
them with the trailing part. -/
theorem captureDecodesAsItsPayload : Obligations.CaptureDecodesAsItsPayload := by
  intro s raw p u a b hwf _ hb hraw
  have hstrip : strip s.cfg raw = p := strip_of_toNat hwf hb hraw
  have halign : exec (.align raw) s = .next (complete { payload := some (strip s.cfg raw) } s) := rfl
  have hcap : exec (.decCap raw) s =
      .next (complete (decoded (strip s.cfg raw) { payload := some (strip s.cfg raw) }) s) := rfl
  rw [halign, hcap, hstrip]
  exact ⟨⟨_, rfl, complete_eq s _⟩, _, _, { decoded p {} with err := 0 }, rfl, rfl, complete_eq s _, complete_eq s _⟩

end Sys2Proof.Machine
end

section
/-! PROOFS. The direct commands: every session operation, direct or composite, asks for a session first. -/

namespace Sys2Proof.Machine

/-- Settles O33: a session operation is `send1` or `send2`, and both refuse before they look at their operands. -/
theorem sessionOperationsNeedASession : Obligations.SessionOperationsNeedASession := by
  intro s i hi hses
  cases i with
  | crcInit | crcByte | align | enc | decCap | decPay | decFrm | cfg => cases hi
  | pwr | cooler | warmer | higher | lower | rset => exact ⟨_, rfl, send1_noSession hses ..⟩
  | lvlLoA | lvlHiA | lvlLoB | lvlHiB | setc | seti => exact ⟨_, rfl, send2_noSession hses ..⟩

end Sys2Proof.Machine
end

section
/-! PROOFS. The composite commands: each is `send2` of its pair of codes, and `send2` refuses exactly the levels
above 15. -/

namespace Sys2Proof.Machine

/-- A composite operation is `send2` of a pair of codes that does not depend on the state (R151, R153 to R158). -/
theorem exec_of_level {i : Instr} {l : BitVec 8} (hl : i.level = some l) :
    ∃ c, ∀ s, exec i s = .next (send2 c l i.counter.1 i.counter.2 s) := by
  cases i with
  | crcInit | crcByte | align | enc | decCap | decPay | decFrm | cfg => cases hl
  | pwr | cooler | warmer | higher | lower | rset => cases hl
  | lvlLoA | lvlHiA | lvlLoB | lvlHiB | setc | seti => cases hl; exact ⟨_, fun _ => rfl⟩

/-- A session operation that sends is not refused, with any code: its response counts frames, and a refusal's
response carries `err` alone (R30, R196). -/
theorem Sent.not_refusedWith {fs : List (Frame × List Bool)} {x : Bool} {s t : State} (h : Sent fs x s t) (n : Nat) :
    ¬ RefusedWith n s t := by
  intro href
  have hresponses := h.responses
  rw [href] at hresponses
  have hcount := congrArg Response.n (List.singleton_inj.mp (List.append_cancel_left hresponses))
  exact Option.some_ne_none _ hcount.symm

/-- Settles O34: `send2` refuses a level above 15, and at any other level it sends, which is no refusal. -/
theorem levelsAboveFifteenAreRefused : Obligations.LevelsAboveFifteenAreRefused := by
  intro s i l hl hses
  obtain ⟨c, hexec⟩ := exec_of_level hl
  refine ⟨_, hexec s, fun habove => send2_invalidLevel hses c habove .., fun hle => ?_⟩
  obtain ⟨oks0, oks1, hsent⟩ := send2_sent hses c hle i.counter.1 i.counter.2
  exact hsent.not_refusedWith 6

end Sys2Proof.Machine
end

section
/-! PROOFS. Session creation: what `CFG` comes to, by the order of its checks. -/

namespace Sys2Proof.Machine

/-- Asking the transceiver once consumes one answer and counts one call, and changes nothing else (R9, R173). -/
theorem State.ask_eq (s : State) : s.ask = { s with answers := s.answers.drop 1, draws := s.draws + 1 } := by
  rw [State.ask, List.drop_one]

/-- Settles O25: the four outcomes of `CFG`, in the order of its checks (R170 to R172, R194). -/
theorem cfgCreatesTheSession : Obligations.CfgCreatesTheSession := by
  intro s idin
  refine ⟨_, rfl, ?_⟩
  obtain ⟨hses, h⟩ | ⟨hses, hid, h⟩ | ⟨hses, hid, ha, h⟩ | ⟨hses, hid, ha, h⟩ := configure_cases idin s
  · rwa [if_pos hses]
  · rwa [if_neg (ne_true_of_eq_false hses), if_pos hid]
  · rw [State.ask_eq] at h
    rw [if_neg (ne_true_of_eq_false hses), if_neg hid.not_gt]
    exact (if_neg (ne_true_of_eq_false ha)).mpr h
  · rw [State.ask_eq] at h
    have hdid : (configure idin s).did = idin.extractLsb' 0 24 := congrArg State.did h
    rw [if_neg (ne_true_of_eq_false hses), if_neg hid.not_gt, hdid]
    exact (if_pos ha).mpr ⟨congrArg State.ses h, toNat_extractLsb'_of_legalId hid, h⟩

end Sys2Proof.Machine
end

section
/-! PROOFS. The invariants: what a request adds to the responses, the fault bits and the logs, said once for the five
effects of an operation, and from it that every step keeps each invariant. -/

namespace Sys2Proof.Machine

/-! ### From effects to steps -/

/-- A property that holds after every reset, does not look at the host's moves, and is kept by every effect is kept by
every step. -/
theorem step_keeps {P : State → Prop} (hreset : ∀ s, P (applyReset s))
    (hmoves : ∀ s rest, P s → P { s with moves := rest }) (heffect : ∀ {s t}, Effect s t → P s → P t)
    {s t : State} (hs : P s) (h : step s = .next t) : P t := by
  obtain ⟨-, rfl⟩ | ⟨rest, -, rfl⟩ | ⟨q, rest, -, heff⟩ := step_effect h
  · exact hs
  · exact hreset _
  · exact heffect heff (hmoves s rest hs)

/-- A step that is no reset stays idle, or has an effect on the state without the move. -/
theorem step_effect_of_ne_rst {s t : State} (h : step s = .next t) (hrst : ∀ rest, s.moves ≠ .rst :: rest) :
    t = s ∨ ∃ rest, Effect { s with moves := rest } t := by
  obtain ⟨-, rfl⟩ | ⟨rest, hm, -⟩ | ⟨q, rest, -, heff⟩ := step_effect h
  · exact .inl rfl
  · exact absurd hm (hrst rest)
  · exact .inr ⟨rest, heff⟩

/-- A step that takes a request has an effect on the state without it. -/
theorem step_effect_of_request {s t : State} {q : Request} {rest : List Move} (hm : s.moves = .request q :: rest)
    (h : step s = .next t) : Effect { s with moves := rest } t := by
  obtain ⟨hidle, -⟩ | ⟨rest', hrst, -⟩ | ⟨q', rest', hm', heff⟩ := step_effect h
  · cases hm.symm.trans hidle
  · cases hm.symm.trans hrst
  · cases hm.symm.trans hm'
    exact heff

/-! ### The fault bits (R25, R195) -/

/-- The bits an error code adds to `FLT`: none for 0, else the bit with the code's number (R195). -/
def faultBits (err : BitVec 4) : BitVec 8 := if err = 0 then 0 else BitVec.twoPow 8 err.toNat

theorem getLsbD_faultBits (err : BitVec 4) {n : Nat} (hn : n ≤ 7) :
    (faultBits err).getLsbD n = true ↔ err ≠ 0 ∧ err.toNat = n := by
  unfold faultBits
  split
  next h0 => simp [h0]
  next h0 =>
    rw [BitVec.getLsbD_twoPow, Bool.and_eq_true, decide_eq_true_iff, decide_eq_true_iff]
    exact ⟨fun ⟨_, h⟩ => ⟨h0, h⟩, fun ⟨_, h⟩ => ⟨by omega, h⟩⟩

theorem faultBits_eq_zero_iff {err : BitVec 4} (hle : err.toNat ≤ 7) : faultBits err = 0 ↔ err = 0 := by
  refine ⟨fun h => by_contra fun h0 => ?_, fun h => if_pos h⟩
  have hbit := (getLsbD_faultBits err hle).mpr ⟨h0, rfl⟩
  simp [h] at hbit

/-- A request delivers one response, with a code up to 7, and adds the bits of that code to `FLT` (R25, R47, R195). -/
def RecordsOneResponse (s t : State) (r : Response) : Prop :=
  t.responses = s.responses ++ [r] ∧ r.err.toNat ≤ 7 ∧ t.flt = s.flt ||| faultBits r.err

theorem RefusedWith.records {n : Nat} {s t : State} (h : RefusedWith n s t) (h1 : 1 ≤ n) (h7 : n ≤ 7) :
    RecordsOneResponse s t { err := BitVec.ofNat 4 n } := by
  have hn : (BitVec.ofNat 4 n).toNat = n := by simp; omega
  have h0 : BitVec.ofNat 4 n ≠ 0 := fun h0 => by simp [h0] at hn; omega
  rw [h]
  exact ⟨rfl, hn.trans_le h7, by rw [faultBits, if_neg h0, hn]⟩

theorem Sent.records {fs : List (Frame × List Bool)} {x : Bool} {s t : State} (h : Sent fs x s t) :
    ∃ r, RecordsOneResponse s t r := by
  refine ⟨_, h.responses, ?_, ?_⟩
  · dsimp only
    split <;> decide
  · rw [h.flt]
    cases fs.all (·.2.all (· == true)) with
    | true => exact BitVec.or_zero.symm
    | false => rfl

/-- A code of a request refused before the transceiver is asked is one of 1 to 6. -/
theorem refusal_code_bounds {n : Nat} (h : n = 1 ∨ n = 2 ∨ n = 4 ∨ n = 5 ∨ n = 6) : 1 ≤ n ∧ n ≤ 6 := by omega

theorem Effect.records {s t : State} (h : Effect s t) : ∃ r, RecordsOneResponse s t r := by
  cases h with
  | answered r c err _ _ eq =>
    cases eq
    exact ⟨r, rfl, by simp [err], by simp [faultBits, err]⟩
  | refused n code eq =>
    obtain ⟨h1, h6⟩ := refusal_code_bounds code
    exact ⟨_, eq.records h1 (by omega)⟩
  | unavailable _ _ eq => exact ⟨_, eq.records (by decide) (by decide)⟩
  | opened _ _ _ eq =>
    cases eq
    exact ⟨{}, rfl, by decide, BitVec.or_zero.symm⟩
  | sent _ _ _ _ eq => exact eq.records

/-- With no response and no fault bit the record is right. -/
theorem faultsRecorded_of_empty {s : State} (hflt : s.flt = 0) (hresponses : s.responses = []) :
    FaultsRecorded s := by
  simp [FaultsRecorded, hflt, hresponses]

theorem Effect.keeps_faultsRecorded {s t : State} (h : Effect s t) (hs : FaultsRecorded s) : FaultsRecorded t := by
  obtain ⟨r, hresponses, hle, hflt⟩ := h.records
  obtain ⟨hzero, hcodes, hbits⟩ := hs
  have hnew (n : Nat) (hn : n ≤ 7) :
      t.flt.getLsbD n = true ↔ s.flt.getLsbD n = true ∨ r.err ≠ 0 ∧ r.err.toNat = n := by
    rw [hflt, BitVec.getLsbD_or, Bool.or_eq_true, getLsbD_faultBits _ hn]
  refine ⟨?_, ?_, fun n h1 h7 => ?_⟩
  · refine Bool.eq_false_iff.mpr fun hbit => ?_
    obtain hold | ⟨hne, h0⟩ := (hnew 0 (by decide)).mp hbit
    · cases hzero.symm.trans hold
    · exact hne (BitVec.eq_of_toNat_eq h0)
  · simpa [hresponses, or_imp, forall_and, hle] using hcodes
  · have hne : r.err ≠ 0 ∧ r.err.toNat = n ↔ r.err.toNat = n := by
      refine and_iff_right_of_imp fun hn h0 => ?_
      simp [h0] at hn
      omega
    rw [hnew n h7, hne, hbits n h1 h7, hresponses]
    simp [or_and_right, exists_or]

/-- Settles O47: a request adds to `FLT` the bit of its response's code, and no other. -/
theorem stepKeepsFaultsRecorded : Obligations.StepKeepsFaultsRecorded := fun _ _ =>
  step_keeps (fun _ => faultsRecorded_of_empty rfl rfl) (fun _ _ hs => hs) Effect.keeps_faultsRecorded

theorem Effect.keeps_noFaultIffCompleted {s t : State} (h : Effect s t) (hs : NoFaultIffCompleted s) :
    NoFaultIffCompleted t := by
  obtain ⟨r, hresponses, hle, hflt⟩ := h.records
  unfold NoFaultIffCompleted NoFault at *
  rw [hflt, hresponses, BitVec.ofNat_eq_ofNat, BitVec.or_eq_zero_iff, ← BitVec.ofNat_eq_ofNat,
    faultBits_eq_zero_iff hle, hs]
  simp [or_imp, forall_and]

/-- Settles O42: no bit is added exactly when the response's code is 0. -/
theorem noFaultMeansEveryRequestCompleted : Obligations.NoFaultMeansEveryRequestCompleted :=
  ⟨⟨fun _ => by simp [State.reset], fun _ => rfl⟩, fun _ _ =>
    step_keeps (fun _ => by simp [NoFaultIffCompleted, NoFault]) (fun _ _ hs => hs) Effect.keeps_noFaultIffCompleted⟩

/-- A step that is no reset only adds bits to `FLT` (R25). -/
theorem step_flt_of_ne_rst {s t : State} (h : step s = .next t) (hrst : ∀ rest, s.moves ≠ .rst :: rest) :
    ∃ bits, t.flt = s.flt ||| bits := by
  obtain rfl | ⟨rest, heff⟩ := step_effect_of_ne_rst h hrst
  · exact ⟨0, BitVec.or_zero.symm⟩
  · obtain ⟨r, -, -, hflt⟩ := heff.records
    exact ⟨_, hflt⟩

/-- Settles O48: a step that is no reset only adds bits to `FLT`. -/
theorem faultBitsAreSticky : Obligations.FaultBitsAreSticky := by
  intro s t n h hrst hbit
  obtain ⟨bits, hflt⟩ := step_flt_of_ne_rst h hrst
  rw [hflt, BitVec.getLsbD_or, hbit, Bool.true_or]

/-! ### `TXLOG` and `FRAMELOG` (R29, R174, R175) -/

theorem writeFaultsLogged_of_empty {s : State} (hflt : s.flt = 0) (htx : s.txLog = []) : WriteFaultsLogged s := by
  simp [WriteFaultsLogged, hflt, htx]

/-- A refusal with a code from 1 to 6 leaves bit 7 of `FLT`. -/
theorem RefusedWith.writeFaultBit {n : Nat} {s t : State} (h : RefusedWith n s t) (hn : n ≤ 6) :
    t.flt.getLsbD 7 = s.flt.getLsbD 7 := by
  have hne : n ≠ 7 := by omega
  rw [h, BitVec.getLsbD_or, BitVec.getLsbD_twoPow]
  simp [hne]

/-- The writes of a session operation that sent, all answered 1 or not. -/
theorem Sent.keeps_writeFaultsLogged {fs : List (Frame × List Bool)} {x : Bool} {s t : State} (h : Sent fs x s t)
    (hs : WriteFaultsLogged s) : WriteFaultsLogged t := by
  have hfailed : (∃ e ∈ fs.flatMap fun p => p.2.map fun ok => (⟨p.1, ok⟩ : TxEntry), e.ok = false) ↔
      fs.all (·.2.all (· == true)) = false := by
    simp [-Bool.exists_bool, List.all_eq_false]
  unfold WriteFaultsLogged at *
  rw [h.txLog, h.flt]
  simp only [List.mem_append, or_and_right, exists_or, ← hs, hfailed]
  cases fs.all (·.2.all (· == true)) with
  | true => simp
  | false => simp

theorem Effect.keeps_writeFaultsLogged {s t : State} (h : Effect s t) (hs : WriteFaultsLogged s) :
    WriteFaultsLogged t := by
  cases h with
  | answered _ _ _ _ _ eq => cases eq; exact hs
  | opened _ _ _ eq => cases eq; exact hs
  | refused n code eq =>
    rw [WriteFaultsLogged, eq.writeFaultBit (refusal_code_bounds code).2, eq]
    exact hs
  | unavailable _ _ eq =>
    rw [WriteFaultsLogged, eq.writeFaultBit (by decide), eq]
    exact hs
  | sent _ _ _ _ eq => exact eq.keeps_writeFaultsLogged hs

/-- Settles O49: only a session operation writes, and it sets bit 7 exactly when a write of it was answered 0. -/
theorem stepKeepsWriteFaultsLogged : Obligations.StepKeepsWriteFaultsLogged := fun _ _ =>
  step_keeps (fun _ => writeFaultsLogged_of_empty rfl rfl) (fun _ _ hs => hs) Effect.keeps_writeFaultsLogged

theorem logRepeatsFrames_of_empty {s : State} (htx : s.txLog = []) (hframes : s.frameLog = []) :
    LogRepeatsFrames s := by
  simp [LogRepeatsFrames, htx, hframes]

/-- The entries of `n` writes carry the frame `n` times. -/
theorem map_frame_entries (f : Frame) (oks : List Bool) :
    (oks.map fun ok => (⟨f, ok⟩ : TxEntry)).map TxEntry.frame = List.replicate oks.length f := by
  rw [List.map_map]
  exact List.map_const' ..

theorem Sent.keeps_logRepeatsFrames {fs : List (Frame × List Bool)} {x : Bool} {s t : State} (h : Sent fs x s t)
    (hs : LogRepeatsFrames s) : LogRepeatsFrames t := by
  obtain ⟨hcfg, -⟩ := h.rest
  unfold LogRepeatsFrames at *
  rw [h.txLog, h.frameLog, hcfg, List.map_append, List.flatMap_append, hs, List.map_flatMap, List.flatMap_map]
  congr 1
  refine List.flatMap_congr fun p hp => ?_
  rw [map_frame_entries, h.repetitions p hp]

theorem Effect.keeps_logRepeatsFrames {s t : State} (h : Effect s t) (hs : LogRepeatsFrames s) :
    LogRepeatsFrames t := by
  cases h with
  | answered _ _ _ _ _ eq => cases eq; exact hs
  | refused _ _ eq => cases eq; exact hs
  | unavailable _ _ eq => cases eq; exact hs
  | opened _ _ _ eq => cases eq; exact hs
  | sent _ _ _ _ eq => exact eq.keeps_logRepeatsFrames hs

/-- Settles O50: only a session operation writes the logs, each frame once to `FRAMELOG` and `N_REPEAT` times to
`TXLOG`. -/
theorem stepKeepsLogRepeatsFrames : Obligations.StepKeepsLogRepeatsFrames := fun _ _ =>
  step_keeps (fun _ => logRepeatsFrames_of_empty rfl rfl) (fun _ _ hs => hs) Effect.keeps_logRepeatsFrames

/-! ### The frames sent (R74, R102) -/

theorem framesOfSession_of_empty {s : State} (hframes : s.frameLog = []) : FramesOfSession s := by
  simp [FramesOfSession, hframes]

theorem Sent.keeps_framesOfSession {fs : List (Frame × List Bool)} {x : Bool} {s t : State} (h : Sent fs x s t)
    (hses : s.ses = true) (hcodes : ∀ p ∈ fs, ∃ c k, emittable c = true ∧ p.1 = frame s.did c k)
    (hs : FramesOfSession s) : FramesOfSession t := by
  obtain ⟨-, htses, hdid, -⟩ := h.rest
  obtain ⟨-, hold⟩ := hs
  refine ⟨fun h0 => by simp [htses, hses] at h0, fun f hf => ?_⟩
  rw [h.frameLog, List.mem_append, List.mem_map] at hf
  rw [hdid]
  obtain hf | ⟨p, hp, rfl⟩ := hf
  · exact hold f hf
  · exact hcodes p hp

theorem Effect.keeps_framesOfSession {s t : State} (h : Effect s t) (hs : FramesOfSession s) :
    FramesOfSession t := by
  cases h with
  | answered _ _ _ _ _ eq => cases eq; exact hs
  | refused _ _ eq => cases eq; exact hs
  | unavailable _ _ eq => cases eq; exact hs
  | opened _ ses _ eq =>
    obtain ⟨hempty, -⟩ := hs
    cases eq
    exact framesOfSession_of_empty (hempty ses)
  | sent _ _ ses codes eq => exact eq.keeps_framesOfSession ses codes hs

/-- Settles O51: a session operation sends frames of its session with emittable codes, and a session is created only
while nothing has been sent. -/
theorem stepKeepsFramesOfSession : Obligations.StepKeepsFramesOfSession := fun _ _ =>
  step_keeps (fun _ => framesOfSession_of_empty rfl) (fun _ _ hs => hs) Effect.keeps_framesOfSession

/-- A value of `frame` that keeps the checksum invariant (R102). -/
def CheckedFrame (f : Frame) : Prop := ChecksumOk f ∧ ∃ id c k, f = frame id c k

/-- Every value of `frame` keeps the checksum invariant (R102). -/
theorem checkedFrame (id : DeviceId) (cmd : Command) (k : BitVec 8) : CheckedFrame (frame id cmd k) :=
  ⟨by rw [ChecksumOk, frame_message, frame_checksum], id, cmd, k, rfl⟩

/-- Every frame of a response is a checked one. -/
def ResponseChecked (r : Response) : Prop := ∀ f, r.frame0 = some f ∨ r.frame1 = some f → CheckedFrame f

theorem responseChecked_of_no_frames {r : Response} (h0 : r.frame0 = none) (h1 : r.frame1 = none) :
    ResponseChecked r := by
  simp [ResponseChecked, h0, h1]

/-- A response with checked frames keeps the invariant, as long as `TXLOG` keeps its part of it. -/
theorem framesChecked_of_response {s t : State} {r : Response} (hresponses : t.responses = s.responses ++ [r])
    (hr : ResponseChecked r) (htx : ∀ e ∈ t.txLog, e ∈ s.txLog ∨ CheckedFrame e.frame) (hs : FramesChecked s) :
    FramesChecked t := by
  obtain ⟨hold, hlog⟩ := hs
  refine ⟨fun r' hr' => ?_, fun e he => (htx e he).elim (hlog e) id⟩
  rw [hresponses, List.mem_append, List.mem_singleton] at hr'
  obtain hr' | rfl := hr'
  · exact hold r' hr'
  · exact hr

theorem Sent.keeps_framesChecked {fs : List (Frame × List Bool)} {x : Bool} {s t : State} (h : Sent fs x s t)
    (hcodes : ∀ p ∈ fs, ∃ c k, emittable c = true ∧ p.1 = frame s.did c k) (hs : FramesChecked s) :
    FramesChecked t := by
  have hchecked : ∀ p ∈ fs, CheckedFrame p.1 := by
    intro p hp
    obtain ⟨c, k, -, hf⟩ := hcodes p hp
    exact hf ▸ checkedFrame s.did c k
  have hat (n : Nat) (f : Frame) (hf : fs[n]?.map Prod.fst = some f) : CheckedFrame f := by
    obtain ⟨p, hp, rfl⟩ := Option.map_eq_some_iff.mp hf
    exact hchecked p (List.mem_of_getElem? hp)
  refine framesChecked_of_response h.responses (fun f hf => hf.elim (hat 0 f) (hat 1 f)) (fun e he => ?_) hs
  rw [h.txLog, List.mem_append, List.mem_flatMap] at he
  refine he.imp_right ?_
  rintro ⟨p, hp, he⟩
  obtain ⟨ok, -, rfl⟩ := List.mem_map.mp he
  exact hchecked p hp

theorem Effect.keeps_framesChecked {s t : State} (h : Effect s t) (hs : FramesChecked s) : FramesChecked t := by
  cases h with
  | answered r _ _ one built eq =>
    cases eq
    refine framesChecked_of_response rfl (fun f hf => ?_) (fun _ => .inl) hs
    obtain ⟨id, cmd, k, rfl⟩ := built f (by simpa [one] using hf)
    exact checkedFrame id cmd k
  | refused _ _ eq =>
    cases eq
    exact framesChecked_of_response rfl (responseChecked_of_no_frames rfl rfl) (fun _ => .inl) hs
  | unavailable _ _ eq =>
    cases eq
    exact framesChecked_of_response rfl (responseChecked_of_no_frames rfl rfl) (fun _ => .inl) hs
  | opened _ _ _ eq =>
    cases eq
    exact framesChecked_of_response rfl (responseChecked_of_no_frames rfl rfl) (fun _ => .inl) hs
  | sent _ _ _ codes eq => exact eq.keeps_framesChecked codes hs

theorem framesChecked_of_empty {s : State} (hresponses : s.responses = []) (htx : s.txLog = []) :
    FramesChecked s := by
  simp [FramesChecked, hresponses, htx]

/-- Settles O52: every frame in a response or a write comes from `frame`, whose values are checked. -/
theorem stepKeepsFramesChecked : Obligations.StepKeepsFramesChecked := fun _ _ =>
  step_keeps (fun _ => framesChecked_of_empty rfl rfl) (fun _ _ hs => hs) Effect.keeps_framesChecked

/-- Settles O46: at reset `FLT` is 0 and every list is empty. -/
theorem invariantsHoldAtReset : Obligations.InvariantsHoldAtReset :=
  ⟨faultsRecorded_of_empty rfl rfl, writeFaultsLogged_of_empty rfl rfl, logRepeatsFrames_of_empty rfl rfl,
    framesOfSession_of_empty rfl, framesChecked_of_empty rfl rfl⟩

end Sys2Proof.Machine
end

section
/-! PROOFS. Steps and requests: that every step answers, what the answer to a request leaves, the identity of a
session, and reset. -/

namespace Sys2Proof.Machine

/-! ### The step (R8, R41, R215) -/

/-- A step with nothing pending stays idle. -/
theorem step_idle {s : State} (hm : s.moves = []) : step s = .next s := by simp [step, takeMove, hm]

/-- A step with `rst` pending resets the state without the move. -/
theorem step_rst {s : State} {rest : List Move} (hm : s.moves = .rst :: rest) :
    step s = .next (applyReset { s with moves := rest }) := by simp [step, takeMove, hm]

/-- A state with a request pending is the state without it, presented with it. -/
theorem eq_present {s : State} {q : Request} {rest : List Move} (hm : s.moves = .request q :: rest) :
    s = { s with moves := rest }.present q := by
  cases s
  cases hm
  rfl

/-- Settles O8: idle, reset and the refusal of an illegal word answer a state, and so does every operation. -/
theorem everyStepAnswers : Obligations.EveryStepAnswers := by
  intro s
  rcases hm : s.moves with _ | ⟨q | _, rest⟩
  · exact ⟨s, step_idle hm⟩
  · rw [eq_present hm]
    cases hd : decode q with
    | error e => exact ⟨_, step_present_error hd _⟩
    | ok i =>
      obtain ⟨t, ht, -⟩ := exec_effect i { s with moves := rest }
      exact ⟨t, (step_present_ok hd _).trans ht⟩
  · exact ⟨_, step_rst hm⟩

/-! ### What a request leaves (R35, R47, R195, R196) -/

/-- Only `CFG` and the session operations ask the transceiver, and no effect writes the parameters or the moves. -/
theorem Effect.grows {s t : State} (h : Effect s t) :
    s.txLog <+: t.txLog ∧ s.frameLog <+: t.frameLog ∧ s.draws ≤ t.draws ∧ t.cfg = s.cfg ∧ t.moves = s.moves := by
  cases h with
  | answered _ _ _ _ _ eq => cases eq; exact ⟨List.prefix_rfl, List.prefix_rfl, le_rfl, rfl, rfl⟩
  | refused _ _ eq => cases eq; exact ⟨List.prefix_rfl, List.prefix_rfl, le_rfl, rfl, rfl⟩
  | unavailable _ _ eq => cases eq; exact ⟨List.prefix_rfl, List.prefix_rfl, Nat.le_succ _, rfl, rfl⟩
  | opened _ _ _ eq => cases eq; exact ⟨List.prefix_rfl, List.prefix_rfl, Nat.le_succ _, rfl, rfl⟩
  | sent _ _ _ _ eq =>
    obtain ⟨hcfg, -, -, -, hmoves⟩ := eq.rest
    obtain ⟨-, hdraws⟩ := eq.asked
    exact ⟨⟨_, eq.txLog.symm⟩, ⟨_, eq.frameLog.symm⟩, by omega, hcfg, hmoves⟩

/-- Settles O40: every effect delivers one response and only appends to the logs. -/
theorem requestsAreAnsweredInOrder : Obligations.RequestsAreAnsweredInOrder := by
  intro s t q rest hm h
  have heff := step_effect_of_request hm h
  obtain ⟨r, hresponses, -, -⟩ := heff.records
  exact ⟨⟨r, hresponses, by rw [State.rsp, hresponses, List.getLast?_concat]⟩, heff.grows⟩

/-- One response delivered is one response only. -/
theorem response_unique {s t : State} {r r' : Response} (h : t.responses = s.responses ++ [r])
    (h' : t.responses = s.responses ++ [r']) : r = r' :=
  List.singleton_inj.mp (List.append_cancel_left (h.symm.trans h'))

/-- The response of a session operation that sent has the code 0 or 7. -/
theorem Sent.err_eq {fs : List (Frame × List Bool)} {x : Bool} {s t : State} {r : Response} (h : Sent fs x s t)
    (hr : t.responses = s.responses ++ [r]) :
    r.err = if fs.all (·.2.all (· == true)) then 0 else 7 := by
  rw [response_unique hr h.responses]

/-- The response of a refused request carries the code and nothing else. -/
theorem RefusedWith.response_eq {n : Nat} {s t : State} {r : Response} (h : RefusedWith n s t)
    (hr : t.responses = s.responses ++ [r]) : r = { err := BitVec.ofNat 4 n } :=
  response_unique hr (by rw [h])

/-- What a refused request leaves: the bit of its code and its response, and every other register and log as it was
(R195, R196). -/
theorem RefusedWith.leaves {n : Nat} {s t : State} {r : Response} (h : RefusedWith n s t) (hn : n < 16)
    (hr : t.responses = s.responses ++ [r]) :
    t.ses = s.ses ∧ t.did = s.did ∧ t.seq = s.seq ∧ t.crc = s.crc ∧ t.txLog = s.txLog ∧ t.frameLog = s.frameLog ∧
    t.flt = s.flt ||| BitVec.twoPow 8 r.err.toNat ∧ r = { err := r.err } := by
  obtain rfl := h.response_eq hr
  have hcode : (BitVec.ofNat 4 n).toNat = n := Nat.mod_eq_of_lt hn
  cases h
  exact ⟨rfl, rfl, rfl, rfl, rfl, rfl, by rw [hcode], rfl⟩

/-- An effect with a code other than 0 and 7 is a refusal, and only HardwareUnavailable has asked the transceiver. -/
theorem Effect.refusal_leaves {s t : State} {r : Response} (h : Effect s t)
    (hr : t.responses = s.responses ++ [r]) (h0 : r.err ≠ 0) (h7 : r.err ≠ 7) :
    t.ses = s.ses ∧ t.did = s.did ∧ t.seq = s.seq ∧ t.crc = s.crc ∧ t.txLog = s.txLog ∧ t.frameLog = s.frameLog ∧
    t.flt = s.flt ||| BitVec.twoPow 8 r.err.toNat ∧ r = { err := r.err } ∧
    (r.err ≠ 3 → t.answers = s.answers ∧ t.draws = s.draws) := by
  cases h with
  | answered r' _ err _ _ eq =>
    obtain rfl := response_unique hr (by rw [eq])
    exact absurd err h0
  | opened _ _ _ eq =>
    obtain rfl := response_unique hr (by rw [eq]; rfl)
    exact absurd rfl h0
  | sent _ _ _ _ eq =>
    have herr : r.err = 0 ∨ r.err = 7 := by rw [eq.err_eq hr]; exact ite_eq_or_eq ..
    exact (herr.elim h0 h7).elim
  | refused n code eq =>
    obtain ⟨hses, hdid, hseq, hcrc, htx, hframes, hflt, hresp⟩ := eq.leaves (by omega) hr
    exact ⟨hses, hdid, hseq, hcrc, htx, hframes, hflt, hresp, fun _ => by rw [eq]; exact ⟨rfl, rfl⟩⟩
  | unavailable _ _ eq =>
    obtain ⟨hses, hdid, hseq, hcrc, htx, hframes, hflt, hresp⟩ := eq.leaves (by decide) hr
    have h3 : r.err = 3 := congrArg Response.err (eq.response_eq hr)
    exact ⟨hses, hdid, hseq, hcrc, htx, hframes, hflt, hresp, fun hne => absurd h3 hne⟩

/-- Settles O38: a request has an effect, and the effects with such a code are the refusals. -/
theorem refusedRequestsLeaveOnlyTheirFaultBit : Obligations.RefusedRequestsLeaveOnlyTheirFaultBit :=
  fun _ _ _ _ _ hm h hr h0 h7 => (step_effect_of_request hm h).refusal_leaves hr h0 h7

/-- With the no-op transceiver no effect answers with the codes 3 and 7 (R179). -/
theorem Effect.noop_err {s t : State} {r : Response} (h : Effect s t) (hnoop : s.cfg.xcvr = .noop)
    (hr : t.responses = s.responses ++ [r]) : r.err ≠ 3 ∧ r.err ≠ 7 := by
  cases h with
  | answered r' _ err _ _ eq =>
    obtain rfl := response_unique hr (by rw [eq])
    rw [err]
    decide
  | opened _ _ _ eq =>
    obtain rfl := response_unique hr (by rw [eq]; rfl)
    decide
  | refused n code eq =>
    obtain rfl := eq.response_eq hr
    rcases code with rfl | rfl | rfl | rfl | rfl <;> decide
  | unavailable _ ans _ => cases ans.symm.trans (answer_noop hnoop)
  | sent _ _ _ _ eq =>
    rw [eq.err_eq hr, eq.stub hnoop]
    decide

/-- Settles O37: the stub answers 1, so `CFG` is not refused for the transceiver and no write fails. -/
theorem noopTransceiverNeverFails : Obligations.NoopTransceiverNeverFails := by
  intro s t hnoop h hrst r hr
  obtain rfl | ⟨rest, heff⟩ := step_effect_of_ne_rst h hrst
  · simp at hr
  · exact heff.noop_err hnoop hr

/-! ### The identity of a session (R21, R22) -/

/-- An effect leaves `SES` and `DID`, or creates a session where there was none. -/
theorem Effect.session_cases {s t : State} (h : Effect s t) :
    (t.ses = s.ses ∧ t.did = s.did) ∨ (s.ses = false ∧ t.ses = true) := by
  cases h with
  | answered _ _ _ _ _ eq => cases eq; exact .inl ⟨rfl, rfl⟩
  | refused _ _ eq => cases eq; exact .inl ⟨rfl, rfl⟩
  | unavailable _ _ eq => cases eq; exact .inl ⟨rfl, rfl⟩
  | opened _ ses _ eq => cases eq; exact .inr ⟨ses, rfl⟩
  | sent _ _ _ _ eq =>
    obtain ⟨-, hses, hdid, -⟩ := eq.rest
    exact .inl ⟨hses, hdid⟩

/-- So does a step that is no reset. -/
theorem step_session_cases {s t : State} (h : step s = .next t) (hrst : ∀ rest, s.moves ≠ .rst :: rest) :
    (t.ses = s.ses ∧ t.did = s.did) ∨ (s.ses = false ∧ t.ses = true) := by
  obtain rfl | ⟨rest, heff⟩ := step_effect_of_ne_rst h hrst
  · exact .inl ⟨rfl, rfl⟩
  · exact heff.session_cases

/-- Settles O28: a step that is no reset writes `DID` only where it takes `SES` from 0 to 1. -/
theorem deviceIdentityIsImmutable : Obligations.DeviceIdentityIsImmutable := by
  intro s t h hrst
  obtain ⟨-, hdid⟩ | ⟨h0, h1⟩ := step_session_cases h hrst
  · exact ⟨fun _ => hdid, fun _ => hdid⟩
  · exact ⟨fun hs => by simp [h0] at hs, fun ht => by simp [h1] at ht⟩

/-- Settles O26: of the four outcomes of `CFG` only the last meets the hypotheses. -/
theorem cfgCompletes : Obligations.CfgCompletes := by
  intro s idin hses hid hans
  refine ⟨_, rfl, ?_⟩
  obtain ⟨h1, -⟩ | ⟨-, habove, -⟩ | ⟨-, -, h0, -⟩ | ⟨-, -, -, h⟩ := configure_cases idin s
  · cases hses.symm.trans h1
  · omega
  · cases hans.symm.trans h0
  · rw [h]
    exact ⟨rfl, toNat_extractLsb'_of_legalId hid, rfl, rfl, rfl, rfl, rfl⟩

/-! ### Reset (R34, R220) -/

/-- Settles O43: reset is `applyReset`, and any other step only adds fault bits and keeps a session. -/
theorem resetRestoresTheStatedValues : Obligations.ResetRestoresTheStatedValues := by
  refine ⟨fun s rest hm => ⟨_, step_rst hm, rfl, rfl, rfl, rfl, rfl, rfl, rfl, rfl, rfl, rfl, rfl, rfl, rfl⟩,
    fun s t h hrst => ⟨?_, fun hs => ?_⟩⟩
  · obtain ⟨bits, hflt⟩ := step_flt_of_ne_rst h hrst
    rw [hflt]
    exact BitVec.eq_of_getLsbD_eq fun i _ => by simpa using .inl
  · obtain ⟨hses, hdid⟩ | ⟨h0, -⟩ := step_session_cases h hrst
    · exact ⟨hses.trans hs, hdid⟩
    · cases hs.symm.trans h0

/-- Settles O44: the reset state is written out field by field, and its parameters are legal. -/
theorem startStateIsTheResetState : Obligations.StartStateIsTheResetState :=
  ⟨rfl, rfl, rfl, rfl, rfl, rfl, rfl, rfl, rfl, by decide, rfl⟩

end Sys2Proof.Machine
end

section
/-! PROOFS. Requests: the decoder's answer field by field, and from it both halves of the round trip and the bits of
the bus that have no effect. -/

namespace Sys2Proof

/-- The operation with its operands read from another bus, its counter fields kept. -/
def Instr.withBus (dat : Dat) : Instr → Instr
  | .crcInit => .crcInit
  | .crcByte _ => .crcByte (datByte dat)
  | .align _ => .align dat
  | .enc _ _ _ => .enc (datEncId dat) (datEncCmd dat) (datByte dat)
  | .decCap _ => .decCap dat
  | .decPay _ => .decPay (datPayload dat)
  | .decFrm _ => .decFrm dat
  | .cfg _ => .cfg (datIdin dat)
  | .pwr x ctr => .pwr x ctr
  | .cooler _ x ctr => .cooler (datByte dat) x ctr
  | .warmer _ x ctr => .warmer (datByte dat) x ctr
  | .higher _ x ctr => .higher (datByte dat) x ctr
  | .lower _ x ctr => .lower (datByte dat) x ctr
  | .rset x ctr => .rset x ctr
  | .lvlLoA _ x ctr => .lvlLoA (datByte dat) x ctr
  | .lvlHiA _ x ctr => .lvlHiA (datByte dat) x ctr
  | .lvlLoB _ x ctr => .lvlLoB (datByte dat) x ctr
  | .lvlHiB _ x ctr => .lvlHiB (datByte dat) x ctr
  | .setc _ x ctr => .setc (datByte dat) x ctr
  | .seti _ x ctr => .seti (datByte dat) x ctr

@[simp] theorem Instr.withBus_opNumber (i : Instr) (dat : Dat) : (i.withBus dat).opNumber = i.opNumber := by
  cases i <;> rfl

@[simp] theorem Instr.withBus_counter (i : Instr) (dat : Dat) : (i.withBus dat).counter = i.counter := by
  cases i <;> rfl

@[simp] theorem Instr.withBus_withBus (i : Instr) (dat dat' : Dat) :
    (i.withBus dat).withBus dat' = i.withBus dat' := by
  cases i <;> rfl

end Sys2Proof

namespace Sys2Proof.Machine

/-! ### The control word by its fields (R60) -/

/-- A control word is its four fields. -/
theorem ctl_ext {a b : Ctl} (hop : ctlOp a = ctlOp b) (hx : ctlX a = ctlX b)
    (hzeros : a.extractLsb' 8 2 = b.extractLsb' 8 2) (hctr : ctlCtr a = ctlCtr b) : a = b := by
  have hop := congrArg BitVec.toNat hop
  have hzeros := congrArg BitVec.toNat hzeros
  have hctr : a.toNat % 256 = b.toNat % 256 := congrArg BitVec.toNat hctr
  rw [toNat_ctlOp, toNat_ctlOp] at hop
  rw [ctlX_eq, ctlX_eq, Bool.eq_iff_iff, beq_iff_eq, beq_iff_eq] at hx
  rw [BitVec.extractLsb'_toNat, BitVec.extractLsb'_toNat, Nat.shiftRight_eq_div_pow,
    Nat.shiftRight_eq_div_pow] at hzeros
  apply BitVec.eq_of_toNat_eq
  omega

@[simp] theorem ctlOp_ctlWord (i : Instr) : ctlOp i.ctlWord = i.opNumber := by
  rw [ctlOp, Instr.ctlWord, BitVec.extractLsb'_append_eq_of_le (by decide),
    BitVec.extractLsb'_append_eq_of_le (by decide)]
  exact BitVec.extractLsb'_append_eq_left

@[simp] theorem ctlX_ctlWord (i : Instr) : ctlX i.ctlWord = i.counter.1 := by
  rw [ctlX, Instr.ctlWord, BitVec.getLsbD_append, BitVec.getLsbD_append, BitVec.getLsbD_append]
  exact BitVec.getLsbD_ofBool ..

@[simp] theorem zeros_ctlWord (i : Instr) : i.ctlWord.extractLsb' 8 2 = 0 := by
  rw [Instr.ctlWord, BitVec.extractLsb'_append_eq_of_le (by decide)]
  exact BitVec.extractLsb'_append_eq_right

@[simp] theorem ctlCtr_ctlWord (i : Instr) : ctlCtr i.ctlWord = i.counter.2 :=
  BitVec.extractLsb'_append_eq_right

/-- The low eleven bits of a control word are `x`, the two zero bits and `ctr`. -/
theorem formatNBits_iff_fields (ctl : Ctl) :
    ctl.extractLsb' 0 11 = 0 ↔ ctlX ctl = false ∧ ctl.extractLsb' 8 2 = 0 ∧ ctlCtr ctl = 0 := by
  have hctr : ctlCtr ctl = 0 ↔ ctl.toNat % 256 = 0 := BitVec.toNat_inj.symm
  rw [formatNBits_eq_zero_iff, formatSBits_eq_zero_iff, hctr, ctlX_eq, beq_eq_false_iff_ne]
  omega

/-! ### The operands (R61) -/

/-- The bus of an operation holds its operands. -/
theorem withBus_bus (i : Instr) : i.withBus i.bus = i := by
  have hlow {w : Nat} (hw : w ≤ 136) (v : BitVec w) : (v.setWidth 136).extractLsb' 0 w = v := by
    rw [BitVec.extractLsb'_setWidth_of_le (by omega), BitVec.extractLsb'_eq_self]
  have hbyte (b : Byte) : datByte (b.setWidth 136) = b := hlow (by decide) b
  cases i with
  | crcInit | pwr | rset | align | decCap | decFrm => rfl
  | crcByte b => exact congrArg _ (hbyte b)
  | decPay p => exact congrArg _ (hlow (by decide) p)
  | cfg idin => exact congrArg _ (hlow (by decide) idin)
  | enc id cmd k =>
    have hid : datEncId ((id ++ cmd ++ k).setWidth 136) = id := by
      rw [datEncId, BitVec.extractLsb'_setWidth_of_le (by decide), BitVec.extractLsb'_append_eq_of_le (by decide)]
      exact BitVec.extractLsb'_append_eq_left
    have hcmd : datEncCmd ((id ++ cmd ++ k).setWidth 136) = cmd := by
      rw [datEncCmd, BitVec.extractLsb'_setWidth_of_le (by decide), BitVec.extractLsb'_append_eq_of_le (by decide)]
      exact BitVec.extractLsb'_append_eq_right
    have hk : datByte ((id ++ cmd ++ k).setWidth 136) = k := by
      rw [datByte, BitVec.extractLsb'_setWidth_of_le (by decide)]
      exact BitVec.extractLsb'_append_eq_right
    simp only [Instr.withBus, Instr.bus, hid, hcmd, hk]
  | cooler | warmer | higher | lower | lvlLoA | lvlHiA | lvlLoB | lvlHiB | setc | seti =>
    simp only [Instr.withBus, Instr.bus, hbyte]

/-! ### The decoder's answer (R60 to R63) -/

/-- The request stands for the operation: its number, counter fields and operands are the operation's, its two zero
bits are 0, and case (4) of rule R63 does not apply. -/
structure StandsFor (r : Request) (i : Instr) : Prop where
  op : ctlOp r.ctl = i.opNumber
  counter : i.counter = (ctlX r.ctl, ctlCtr r.ctl)
  zeros : r.ctl.extractLsb' 8 2 = 0
  wellFormed : i.WellFormed
  operands : i.withBus r.dat = i

/-- A word of format N that decodes has no `x` and no `ctr`. -/
theorem formatN_eq_ok {ctl : Ctl} {i j : Instr} (h : formatN ctl i = .ok j) :
    j = i ∧ ctl.extractLsb' 8 2 = 0 ∧ (false, 0) = (ctlX ctl, ctlCtr ctl) := by
  unfold formatN at h
  split at h
  next hbits =>
    obtain ⟨hx, hzeros, hctr⟩ := (formatNBits_iff_fields ctl).mp hbits
    cases h
    exact ⟨rfl, hzeros, by rw [hx, hctr]⟩
  next => cases h

/-- A word of format S that decodes has its zero bits at 0 and not case (4) of rule R63. -/
theorem formatS_eq_ok {ctl : Ctl} {op : Bool → BitVec 8 → Instr} {j : Instr} (h : formatS ctl op = .ok j) :
    j = op (ctlX ctl) (ctlCtr ctl) ∧ ctl.extractLsb' 8 2 = 0 ∧ counterOk (ctlX ctl) (ctlCtr ctl) := by
  obtain ⟨hzeros, hctr⟩ := (formatS_ok_iff ctl op).mp ⟨j, h⟩
  rw [← formatSBits_eq_zero_iff] at hzeros
  rw [← counterOk_fields_iff] at hctr
  rw [formatS_ok op hzeros hctr] at h
  cases h
  exact ⟨rfl, hzeros, hctr⟩

/-- The decoder accepts a request as the operation it stands for. -/
theorem StandsFor.decode_eq {r : Request} {i : Instr} (h : StandsFor r i) : decode r = .ok i := by
  obtain ⟨hop, hcounter, hzeros, hwf, hbus⟩ := h
  have hN (hn : i.counter = (false, 0)) : formatN r.ctl i = .ok i := by
    obtain ⟨hx, hctr⟩ := Prod.mk.inj (hcounter.symm.trans hn)
    rw [formatN, if_pos ((formatNBits_iff_fields _).mpr ⟨hx, hzeros, hctr⟩)]
  have hS (op : Bool → BitVec 8 → Instr) (hn : op i.counter.1 i.counter.2 = i) : formatS r.ctl op = .ok i := by
    rw [Instr.WellFormed, hcounter] at hwf
    rw [hcounter] at hn
    rw [formatS_ok op hzeros hwf, hn]
  cases i with
  | crcInit | crcByte | align | enc | decCap | decPay | decFrm | cfg =>
    simp only [decode, hop, Instr.opNumber, BitVec.ofNat_eq_ofNat]
    exact (congrArg (formatN r.ctl) hbus).trans (hN rfl)
  | pwr | cooler | warmer | higher | lower | rset | lvlLoA | lvlHiA | lvlLoB | lvlHiB | setc | seti =>
    simp only [decode, hop, Instr.opNumber, BitVec.ofNat_eq_ofNat]
    exact hS _ hbus

/-- And it accepts nothing else. -/
theorem standsFor_of_decode {r : Request} {i : Instr} (h : decode r = .ok i) : StandsFor r i := by
  unfold decode at h
  split at h
  case h_1 hop | h_2 hop | h_3 hop | h_4 hop | h_5 hop | h_6 hop | h_7 hop | h_8 hop =>
    obtain ⟨rfl, hzeros, hcounter⟩ := formatN_eq_ok h
    exact ⟨hop, hcounter, hzeros, fun _ => rfl, rfl⟩
  case h_9 hop | h_10 hop | h_11 hop | h_12 hop | h_13 hop | h_14 hop | h_15 hop | h_16 hop | h_17 hop | h_18 hop |
      h_19 hop | h_20 hop =>
    obtain ⟨rfl, hzeros, hctr⟩ := formatS_eq_ok h
    exact ⟨hop, rfl, hzeros, hctr, rfl⟩
  case h_21 => cases h

/-! ### Both halves of the round trip -/

/-- Settles O3: the encoding of a well-formed operation stands for it. -/
theorem decodeOfEncodeIsTheOperation : Obligations.DecodeOfEncodeIsTheOperation := fun i hwf =>
  StandsFor.decode_eq ⟨ctlOp_ctlWord i, by rw [encode, ctlX_ctlWord, ctlCtr_ctlWord], zeros_ctlWord i, hwf,
    withBus_bus i⟩

/-- The operand bits of the encoded bus are those the operands were read from, with the default capture width. -/
theorem getLsbD_bus_withBus (i : Instr) (dat : Dat) {j : Nat} (hj : j < operandBits Config.default i) :
    (i.withBus dat).bus.getLsbD j = dat.getLsbD j := by
  have hlow {w : Nat} (hw : w ≤ 136) (hjw : j < w) :
      ((dat.extractLsb' 0 w).setWidth 136).getLsbD j = dat.getLsbD j := by
    simp [hjw, hjw.trans_le hw]
  cases i with
  | crcInit | pwr | rset => cases hj
  | align | decCap | decFrm => rfl
  | enc =>
    have hjoin : datEncId dat ++ datEncCmd dat ++ datByte dat = dat.extractLsb' 0 48 := by
      have hhigh : datEncId dat ++ datEncCmd dat = dat.extractLsb' 8 40 :=
        BitVec.extractLsb'_append_extractLsb'_eq_extractLsb' rfl
      rw [hhigh]
      exact BitVec.extractLsb'_append_extractLsb'_eq_extractLsb' rfl
    rw [Instr.withBus, Instr.bus, hjoin]
    exact hlow (by decide) hj
  | crcByte | decPay | cfg => exact hlow (by decide) hj
  | cooler | warmer | higher | lower | lvlLoA | lvlHiA | lvlLoB | lvlHiB | setc | seti => exact hlow (by decide) hj

/-- Settles O4: an operation that a request stands for has the request's fields and operands. -/
theorem decodeDropsNoBit : Obligations.DecodeDropsNoBit := by
  intro r i h
  obtain ⟨hop, hcounter, hzeros, hwf, hbus⟩ := standsFor_of_decode h
  have hctl : i.ctlWord = r.ctl := by
    apply ctl_ext <;> simp [hop, hcounter, hzeros]
  refine ⟨hwf, hctl, fun j hj => ?_⟩
  rw [encode, ← hbus]
  exact getLsbD_bus_withBus i r.dat hj

/-! ### Bits above the operand (R61) -/

/-- Two buses that agree on low bits agree on a field in them. -/
theorem extractLsb'_congr {w n start len : Nat} {a b : BitVec w} (h : ∀ j, j < n → a.getLsbD j = b.getLsbD j)
    (hn : start + len ≤ n) : a.extractLsb' start len = b.extractLsb' start len := by
  apply BitVec.eq_of_getLsbD_eq
  intro i hi
  rw [BitVec.getLsbD_extractLsb', BitVec.getLsbD_extractLsb', h _ (by omega)]

/-- A capture is its own bits of the bus (R120). -/
theorem capture_congr {c : Config} {a b : Dat} (h : ∀ j, j < c.capBits → a.getLsbD j = b.getLsbD j) :
    capture c a = capture c b := by
  apply Nat.eq_of_testBit_eq
  intro j
  rw [capture, capture, Nat.testBit_mod_two_pow, Nat.testBit_mod_two_pow]
  by_cases hj : j < c.capBits
  · simp only [hj, BitVec.testBit_toNat, h j hj]
  · simp only [hj, decide_false, Bool.false_and]

/-- An operation does the same on two buses that agree on its operand (R61, U16). -/
theorem exec_withBus_congr {s : State} {i : Instr} {dat dat' : Dat}
    (h : ∀ j, j < operandBits s.cfg i → dat.getLsbD j = dat'.getLsbD j) :
    exec (i.withBus dat) s = exec (i.withBus dat') s := by
  have hfield {start len : Nat} (hlen : start + len ≤ operandBits s.cfg i) :
      dat.extractLsb' start len = dat'.extractLsb' start len := extractLsb'_congr h hlen
  cases i with
  | crcInit | pwr | rset => rfl
  | align | decCap =>
    have hstrip : strip s.cfg dat = strip s.cfg dat' := by rw [strip, strip, capture_congr h]
    simp only [Instr.withBus, exec, execAlign, execDecCap, hstrip]
  | enc =>
    have hid : datEncId dat = datEncId dat' := hfield (by simp [operandBits])
    have hcmd : datEncCmd dat = datEncCmd dat' := hfield (by simp [operandBits])
    have hk : datByte dat = datByte dat' := hfield (by simp [operandBits])
    simp only [Instr.withBus, hid, hcmd, hk]
  | decPay =>
    have hp : datPayload dat = datPayload dat' := hfield le_rfl
    simp only [Instr.withBus, hp]
  | cfg =>
    have hid : datIdin dat = datIdin dat' := hfield le_rfl
    simp only [Instr.withBus, hid]
  | decFrm => rw [BitVec.eq_of_getLsbD_eq h]
  | crcByte | cooler | warmer | higher | lower | lvlLoA | lvlHiA | lvlLoB | lvlHiB | setc | seti =>
    have hb : datByte dat = datByte dat' := hfield le_rfl
    simp only [Instr.withBus, hb]

/-- Settles O6: the other request stands for the operation read from its bus, which does the same. -/
theorem bitsAboveTheOperandHaveNoEffect : Obligations.BitsAboveTheOperandHaveNoEffect := by
  intro s ctl dat dat' i h hagree
  obtain ⟨hop, hcounter, hzeros, hwf, hbus⟩ := standsFor_of_decode h
  have hother : StandsFor ⟨ctl, dat'⟩ (i.withBus dat') :=
    ⟨by simpa using hop, by simpa using hcounter, hzeros, by simpa [Instr.WellFormed] using hwf, by simp⟩
  rw [step_present_ok h, step_present_ok hother.decode_eq, ← exec_withBus_congr hagree, hbus]

/-! ### The step of a request (R41) -/

/-- Settles O1: each word is computed. -/
theorem requestWordsDecode : Obligations.RequestWordsDecode := by
  unfold Obligations.RequestWordsDecode
  decide

/-- Settles O7: a step takes the pending request, and what decodes is well-formed. -/
theorem stepRunsTheDecodedRequest : Obligations.StepRunsTheDecodedRequest := by
  refine ⟨fun s r rest i hm h => ⟨(standsFor_of_decode h).wellFormed, ?_⟩, fun s nbits w i h => ?_,
    fun s => step_idle⟩
  · rw [eq_present hm]
    exact step_present_ok h _
  · refine step_present_ok ?_ s
    unfold decodeTableWord at h
    cases hd : decode (requestOfWord nbits w) with
    | ok j => rw [hd] at h; cases h; rfl
    | error e => rw [hd] at h; cases h

end Sys2Proof.Machine
end

section
/-! PROOFS. The CRC16 Engine, the codec and the capture, byte by byte. -/

namespace Sys2Proof.Machine

/-! ### The byte-at-a-time form (R91, R93, R94) -/

/-- Settles O9: `CRC.INIT` writes and answers its constant. -/
theorem crcInitLoadsTheInitialRegister : Obligations.CrcInitLoadsTheInitialRegister :=
  fun _ => ⟨_, rfl, rfl, rfl⟩

/-- One conditional shift of a register with bits xored in folds in the top one of them, and shifts the others on. -/
theorem conditionalShift_xor (r z : BitVec 16) :
    (if (r ^^^ z).getLsbD 15 then ((r ^^^ z) <<< 1) ^^^ 0x1021#16 else (r ^^^ z) <<< 1) =
      crcBit r (z.getLsbD 15) ^^^ (z <<< 1) := by
  rw [BitVec.getLsbD_xor, BitVec.shiftLeft_xor_distrib, crcBit]
  cases r.getLsbD 15 ^^ z.getLsbD 15 with
  | false => rfl
  | true =>
    rw [BitVec.xor_assoc, BitVec.xor_comm (z <<< 1), ← BitVec.xor_assoc]
    rfl

/-- `n` conditional shifts of a register with bits xored in fold in the upper `n` of them, from the top. -/
theorem shiftEight_xor {n : Nat} (hn : n ≤ 16) (r z : BitVec 16) :
    shiftEight (r ^^^ z) n =
      (List.range n).foldl (fun acc k => crcBit acc (z.getLsbD (15 - k))) r ^^^ (z <<< n) := by
  induction n generalizing r z with
  | zero => simp [shiftEight]
  | succ n ih =>
    have hbits : ∀ k ∈ List.range n, (z <<< 1).getLsbD (15 - k) = z.getLsbD (15 - (k + 1)) := by
      intro k hk
      rw [List.mem_range] at hk
      rw [BitVec.getLsbD_shiftLeft]
      simp [show 15 - k < 16 by omega, show ¬ 15 - k < 1 by omega, Nat.sub_sub]
    rw [shiftEight, conditionalShift_xor, ih (by omega), ← BitVec.shiftLeft_add, Nat.add_comm 1,
      List.range_succ_eq_map, List.foldl_cons, List.foldl_map]
    congr 1
    exact List.foldl_ext _ _ _ fun acc k hk => by rw [hbits k hk]

/-- The two forms of rule R91 agree. -/
theorem crcByte_eq_shiftEight (r : BitVec 16) (b : Byte) :
    crcByte r b = shiftEight (r ^^^ (b.setWidth 16 <<< 8)) 8 := by
  have hout : b.setWidth 16 <<< 8 <<< 8 = 0#16 := by
    rw [← BitVec.shiftLeft_add]
    exact BitVec.shiftLeft_eq_zero (by decide)
  have hbits : ∀ k ∈ List.range 8, (b.setWidth 16 <<< 8).getLsbD (15 - k) = b.getLsbD (7 - k) := by
    intro k hk
    rw [List.mem_range] at hk
    simp [show 15 - k < 16 by omega, show ¬ 15 - k < 8 by omega, show 15 - k - 8 = 7 - k by omega]
  calc crcByte r b
      = (List.range 8).foldl (fun acc k => crcBit acc (b.getLsbD (7 - k))) r := rfl
    _ = (List.range 8).foldl (fun acc k => crcBit acc ((b.setWidth 16 <<< 8).getLsbD (15 - k))) r :=
      List.foldl_ext _ _ _ fun acc k hk => by rw [hbits k hk]
    _ = shiftEight (r ^^^ (b.setWidth 16 <<< 8)) 8 := by
      rw [shiftEight_xor (by decide), hout, BitVec.xor_zero]

/-- Settles O10: `CRC.BYTE` folds with `crcByte`, and that is the other form. -/
theorem crcByteFoldsTheByte : Obligations.CrcByteFoldsTheByte :=
  fun s b => ⟨_, _, crcByte_eq_shiftEight s.crc b, rfl, rfl, rfl⟩

/-! ### The bytes of a frame and of a payload (R70, R71) -/

/-- The bytes of `x ++ b` end with `b`. -/
theorem bytesBE_concat (n : Nat) {w : Nat} (x : BitVec w) (b : Byte) :
    bytesBE (n + 1) (x ++ b) = bytesBE n x ++ [b] := by
  rw [bytesBE_append n 1 rfl, bytesBE_one]

/-- The two bytes of a 16-bit value make it up. -/
theorem bytesBE_two (v : BitVec 16) :
    ∃ h l : Byte, bytesBE 2 v = [h, l] ∧ h ++ l = v :=
  ⟨v.extractLsb' 8 8, v.extractLsb' 0 8, rfl,
    (BitVec.extractLsb'_append_extractLsb'_eq_extractLsb' rfl).trans BitVec.extractLsb'_eq_self⟩

theorem bytesBE_preamble : bytesBE 8 preamble = [0x53, 0x39, 0x14, 0xDD, 0x1C, 0x49, 0x34, 0x12] := by decide

/-- Settles O14: the bytes of a frame are those of its parts in order. -/
theorem encBuildsTheFrame : Obligations.EncBuildsTheFrame := by
  intro s i0 i1 i2 k c0 c1
  have hmessage : bytesBE 15 (message (i0 ++ i1 ++ i2) (c0 ++ c1) k) =
      [0x53, 0x39, 0x14, 0xDD, 0x1C, 0x49, 0x34, 0x12, i0, i1, i2, 0xFF, k, c0, c1] := by
    rw [bytesBE_message, bytesBE_preamble, bytesBE_concat 2, bytesBE_concat 1, bytesBE_one, bytesBE_concat 1,
      bytesBE_one]
    rfl
  obtain ⟨h, l, hbytes, hjoin⟩ := bytesBE_two (crc16 (bytesBE 15 (message (i0 ++ i1 ++ i2) (c0 ++ c1) k)))
  refine ⟨_, frame (i0 ++ i1 ++ i2) (c0 ++ c1) k, h, l, rfl, complete_eq s _, ?_, ?_⟩
  · rw [bytesBE_frame, hbytes, hmessage]
    rfl
  · rw [hjoin, hmessage]

/-- The low two bytes of a value. -/
theorem extractLsb'_low_two {w : Nat} (x : BitVec w) (a b : Byte) : (x ++ a ++ b).extractLsb' 0 16 = a ++ b := by
  rw [BitVec.append_assoc, BitVec.extractLsb'_cast]
  exact BitVec.extractLsb'_append_eq_right

/-- The check of nine payload bytes covers the constant preamble and the first seven (R103). -/
theorem check_bytes (b0 b1 b2 b3 b4 b5 b6 b7 b8 : Byte) :
    check (b0 ++ b1 ++ b2 ++ b3 ++ b4 ++ b5 ++ b6 ++ b7 ++ b8) =
      (crc16 [0x53, 0x39, 0x14, 0xDD, 0x1C, 0x49, 0x34, 0x12, b0, b1, b2, b3, b4, b5, b6] == b7 ++ b8) := by
  have hseven : (b0 ++ b1 ++ b2 ++ b3 ++ b4 ++ b5 ++ b6 ++ b7 ++ b8).extractLsb' 16 56 =
      b0 ++ b1 ++ b2 ++ b3 ++ b4 ++ b5 ++ b6 := by
    rw [BitVec.extractLsb'_append_eq_of_le (by decide), BitVec.extractLsb'_append_eq_of_le (by decide)]
    exact BitVec.extractLsb'_eq_self
  rw [check, hseven, extractLsb'_low_two, bytesBE_append 8 7 rfl, bytesBE_preamble]
  simp only [bytesBE_concat, bytesBE_one]
  rfl

/-- The fields of nine payload bytes (R71). -/
theorem decoded_bytes (b0 b1 b2 b3 b4 b5 b6 b7 b8 : Byte) (r : Response) :
    decoded (b0 ++ b1 ++ b2 ++ b3 ++ b4 ++ b5 ++ b6 ++ b7 ++ b8) r =
      decodeResponse b0 b1 b2 b3 b4 b5 b6 b7 b8 r := by
  simp (disch := decide) only [decoded, decodeResponse, check_bytes, extractLsb'_low_two,
    BitVec.extractLsb'_append_eq_of_le, Nat.reduceSub, BitVec.extractLsb'_append_eq_right, BitVec.extractLsb'_eq_self]

/-- Settles O16: `DEC.PAY` answers the payload decoded. -/
theorem decPaySplitsAndChecks : Obligations.DecPaySplitsAndChecks := by
  intro s b0 b1 b2 b3 b4 b5 b6 b7 b8
  refine ⟨_, rfl, ?_⟩
  rw [decoded_bytes]
  exact complete_eq s _

/-- Settles O17: the preamble stands above the payload, which is decoded by itself. -/
theorem decFrmSplitsAndChecks : Obligations.DecFrmSplitsAndChecks := by
  intro s p b0 b1 b2 b3 b4 b5 b6 b7 b8
  have hassoc : p ++ b0 ++ b1 ++ b2 ++ b3 ++ b4 ++ b5 ++ b6 ++ b7 ++ b8 =
      p ++ (b0 ++ b1 ++ b2 ++ b3 ++ b4 ++ b5 ++ b6 ++ b7 ++ b8) := by
    simp only [BitVec.append_assoc, BitVec.cast_eq]
  rw [hassoc]
  refine ⟨_, rfl, ?_⟩
  rw [preambleOk, BitVec.extractLsb'_append_eq_left, BitVec.extractLsb'_append_eq_right, decoded_bytes]
  exact complete_eq s _

/-! ### Recognition (R104) -/

/-- A value with the constant preamble, a valid payload and the constant separator is a frame. -/
theorem eq_frame_of_decoded {f : Frame} (hpre : preambleOk f = true) (hvalid : check (f.extractLsb' 0 72) = true)
    (hsep : (f.extractLsb' 0 72).extractLsb' 40 8 = separator) : ∃ id cmd k, f = frame id cmd k := by
  generalize hp : f.extractLsb' 0 72 = p at hvalid hsep
  have hmessage : message (p.extractLsb' 48 24) (p.extractLsb' 16 16) (p.extractLsb' 32 8) =
      preamble ++ p.extractLsb' 16 56 := by
    rw [message, ← hsep]
    exact preamble_append_fields p
  refine ⟨p.extractLsb' 48 24, p.extractLsb' 16 16, p.extractLsb' 32 8, ?_⟩
  calc f = f.extractLsb' 72 64 ++ f.extractLsb' 0 72 := (BitVec.extractLsb'_append_extractLsb' (w := 64) (len := 72)).symm
    _ = preamble ++ (p.extractLsb' 16 56 ++ p.extractLsb' 0 16) := by
      rw [hp, beq_iff_eq.mp hpre, BitVec.extractLsb'_append_extractLsb']
    _ = preamble ++ p.extractLsb' 16 56 ++ p.extractLsb' 0 16 := by simp only [BitVec.append_assoc, BitVec.cast_eq]
    _ = frame _ _ _ := by rw [frame, hmessage, (check_iff p).mp hvalid]

/-- Settles O18: the three answers are those of a frame, and they fix every bit that the triple does not. -/
theorem wellFormedFramesAreRecognised : Obligations.WellFormedFramesAreRecognised := by
  intro s f
  refine ⟨_, _, rfl, complete_eq s _, ?_⟩
  constructor
  · rintro ⟨id, cmd, k, rfl⟩
    rw [decoded_frame, preambleOk_frame]
    exact ⟨rfl, rfl, rfl⟩
  · rintro ⟨hpre, hvalid, hsep⟩
    exact eq_frame_of_decoded (Option.some.inj hpre) (Option.some.inj hvalid) (Option.some.inj hsep)

/-! ### Stripping the default stray bits (R121) -/

/-- With the default counts the payload is bits 80 to 9 of the bus. -/
theorem strip_of_defaultStrip {c : Config} (hc : defaultStrip c) (raw : Dat) : strip c raw = raw.extractLsb' 9 72 := by
  obtain ⟨hcap, -, htrail⟩ := hc
  apply BitVec.eq_of_getLsbD_eq
  intro j hj
  rw [getLsbD_strip c raw hj, hcap, htrail, BitVec.getLsbD_extractLsb', decide_eq_true hj,
    decide_eq_true (by omega : 9 + j < 96)]

/-- A byte of the bus one bit above a byte boundary: the low bit of the upper byte and the high seven of the lower. -/
theorem extractLsb'_across {w : Nat} (v : BitVec w) (n : Nat) :
    v.extractLsb' (n + 1) 8 = v.extractLsb' (n + 8) 8 <<< 7 ||| v.extractLsb' n 8 >>> 1 := by
  apply BitVec.eq_of_getLsbD_eq
  intro i hi
  rw [BitVec.getLsbD_or, BitVec.getLsbD_shiftLeft, BitVec.getLsbD_ushiftRight]
  simp only [BitVec.getLsbD_extractLsb', hi]
  rcases Nat.lt_or_ge i 7 with h7 | h7
  · simp [h7, show 1 + i < 8 by omega, Nat.add_assoc]
  · obtain rfl : i = 7 := by omega
    simp

/-- A field of a field. -/
theorem extractLsb'_of_extractLsb' {w lo n start len : Nat} (v : BitVec w) (h : start + len ≤ n) :
    (v.extractLsb' lo n).extractLsb' start len = v.extractLsb' (lo + start) len := by
  apply BitVec.eq_of_getLsbD_eq
  intro i hi
  simp only [BitVec.getLsbD_extractLsb', hi, show start + i < n by omega, Nat.add_assoc, decide_true, Bool.true_and]

/-- The nine bytes of the stripped payload, each across two bytes of the bus (R121). -/
theorem bytesBE_strip {c : Config} (hc : defaultStrip c) (raw : Dat) :
    bytesBE 9 (strip c raw) = (List.range 9).map fun k =>
      raw.extractLsb' (8 * (10 - k)) 8 <<< 7 ||| raw.extractLsb' (8 * (9 - k)) 8 >>> 1 := by
  rw [strip_of_defaultStrip hc, bytesBE]
  refine List.map_congr_left fun k hk => ?_
  rw [List.mem_range] at hk
  have hlow : 9 + 8 * (9 - 1 - k) = 8 * (9 - k) + 1 := by omega
  have hhigh : 8 * (9 - k) + 8 = 8 * (10 - k) := by omega
  rw [extractLsb'_of_extractLsb' _ (by omega), hlow, extractLsb'_across, hhigh]

/-- Settles O22: byte `k` of the payload lies across the boundary of two bytes of the capture. -/
theorem alignStripsTheStrayBits : Obligations.AlignStripsTheStrayBits := by
  intro s junk c0 c1 c2 c3 c4 c5 c6 c7 c8 c9 c10 c11 hc
  refine ⟨_, strip s.cfg _, rfl, complete_eq s _, ?_⟩
  rw [bytesBE_strip hc]
  simp (disch := decide) only [List.range, List.range.loop, List.map, Nat.reduceSub, Nat.reduceMul,
    BitVec.extractLsb'_append_eq_of_le, BitVec.extractLsb'_append_eq_right]

end Sys2Proof.Machine
end

section
/-! PROOFS. What no operation reads: `FLT`, and but for the CRC operations `CRC`; and what the codec and capture
operations do not read. -/

namespace Sys2Proof.Machine

/-! ### Other values in `CRC` and `FLT` (R24, R25, R35) -/

/-- The state with other values in `CRC` and `FLT`. -/
def withCrcFlt (s : State) (c : BitVec 16) (v : BitVec 8) : State := { s with crc := c, flt := v }

/-- The operation does not read `CRC` and `FLT`, leaves `CRC`, and adds to `FLT` bits that do not depend on either. -/
def IgnoresCrcFlt (op : State → State) : Prop :=
  ∀ s, ∃ bits, ∀ c v, op (withCrcFlt s c v) = withCrcFlt (op s) c (v ||| bits)

theorem raise_ignoresCrcFlt (e : EngineError) (r : Response) : IgnoresCrcFlt (raise e r) :=
  fun _ => ⟨e.faultBit, fun _ _ => rfl⟩

/-- Completing with a response made of the parameters. -/
theorem completeOfCfg_ignoresCrcFlt (r : Config → Response) : IgnoresCrcFlt fun s => complete (r s.cfg) s :=
  fun _ => ⟨0#8, fun _ _ => by rw [BitVec.or_zero]; rfl⟩

theorem complete_ignoresCrcFlt (r : Response) : IgnoresCrcFlt (complete r) :=
  completeOfCfg_ignoresCrcFlt fun _ => r

theorem finish_ignoresCrcFlt (ok : Bool) (r : Response) : IgnoresCrcFlt (finish ok r) := by
  cases ok with
  | true => exact complete_ignoresCrcFlt r
  | false => exact raise_ignoresCrcFlt .txWriteFault r

/-- An operation that goes on from a state of its own with one that ignores `CRC` and `FLT` ignores them too. -/
theorem ignoresCrcFlt_of_continues {op : State → State}
    (h : ∀ s, ∃ next u, IgnoresCrcFlt next ∧ ∀ c v, op (withCrcFlt s c v) = next (withCrcFlt u c v)) :
    IgnoresCrcFlt op := by
  intro s
  obtain ⟨next, u, hnext, hop⟩ := h s
  obtain ⟨bits, hbits⟩ := hnext u
  have hs : op s = withCrcFlt (next u) s.crc (s.flt ||| bits) := (hop s.crc s.flt).trans (hbits s.crc s.flt)
  refine ⟨bits, fun c v => ?_⟩
  rw [hop, hbits, hs]
  rfl

/-! ### Each operation (R35) -/

section Reads

variable (s : State) (c : BitVec 16) (v : BitVec 8)

@[simp] theorem withCrcFlt_ses : (withCrcFlt s c v).ses = s.ses := rfl
@[simp] theorem withCrcFlt_did : (withCrcFlt s c v).did = s.did := rfl
@[simp] theorem withCrcFlt_counterOf (x : Bool) (ctr : BitVec 8) :
    counterOf x ctr (withCrcFlt s c v) = counterOf x ctr s := rfl
@[simp] theorem withCrcFlt_xcvrInit : xcvrInit (withCrcFlt s c v) = (s.answer, withCrcFlt s.ask c v) := rfl
@[simp] theorem withCrcFlt_openSession (id : DeviceId) :
    (withCrcFlt s c v).openSession id = withCrcFlt (s.openSession id) c v := rfl

/-- The writes of a frame go the same whatever stands in the two registers (R174). -/
@[simp] theorem withCrcFlt_writes (f : Frame) (n : Nat) :
    writes f n (withCrcFlt s c v) = ((writes f n s).1, withCrcFlt (writes f n s).2 c v) := by
  induction n generalizing s with
  | zero => rfl
  | succ n ih =>
    have hone : xcvrWrite f (withCrcFlt s c v) = ((xcvrWrite f s).1, withCrcFlt (xcvrWrite f s).2 c v) := rfl
    simp only [writes, hone, ih]

@[simp] theorem withCrcFlt_tx (f : Frame) :
    tx f (withCrcFlt s c v) = ((tx f s).1, withCrcFlt (tx f s).2 c v) := by
  simp only [tx, withCrcFlt_writes]
  rfl

@[simp] theorem withCrcFlt_advance (x : Bool) (k : BitVec 8) :
    advance x k (withCrcFlt s c v) = withCrcFlt (advance x k s) c v := by
  cases x <;> rfl

end Reads

theorem send1_ignoresCrcFlt (cmd : Command) (x : Bool) (ctr : BitVec 8) : IgnoresCrcFlt (send1 cmd x ctr) := by
  refine ignoresCrcFlt_of_continues fun s => ?_
  cases hses : s.ses with
  | false => exact ⟨_, s, raise_ignoresCrcFlt .noSession {}, fun c v => by simp [send1, hses]⟩
  | true =>
    exact ⟨_, _, finish_ignoresCrcFlt _ _, fun c v => by
      simp only [send1, withCrcFlt_ses, hses, if_true, withCrcFlt_did, withCrcFlt_counterOf, withCrcFlt_tx,
        withCrcFlt_advance]
      rfl⟩

theorem send2_ignoresCrcFlt (cmds : Command × Command) (l : BitVec 8) (x : Bool) (ctr : BitVec 8) :
    IgnoresCrcFlt (send2 cmds l x ctr) := by
  refine ignoresCrcFlt_of_continues fun s => ?_
  cases hses : s.ses with
  | false => exact ⟨_, s, raise_ignoresCrcFlt .noSession {}, fun c v => by simp [send2, hses]⟩
  | true =>
    cases hl : levelOk l with
    | false => exact ⟨_, s, raise_ignoresCrcFlt .invalidLevel {}, fun c v => by simp [send2, hses, hl]⟩
    | true =>
      exact ⟨_, _, finish_ignoresCrcFlt _ _, fun c v => by
        simp only [send2, withCrcFlt_ses, hses, hl, if_true, withCrcFlt_did, withCrcFlt_counterOf, withCrcFlt_tx,
          withCrcFlt_advance]
        rfl⟩

theorem configure_ignoresCrcFlt (idin : BitVec 32) : IgnoresCrcFlt (configure idin) := by
  refine ignoresCrcFlt_of_continues fun s => ?_
  cases hses : s.ses with
  | true => exact ⟨_, s, raise_ignoresCrcFlt .sessionExists {}, fun c v => by simp [configure, hses]⟩
  | false =>
    cases hid : idOk idin with
    | false => exact ⟨_, s, raise_ignoresCrcFlt .invalidDeviceId {}, fun c v => by simp [configure, hses, hid]⟩
    | true =>
      cases ha : s.answer with
      | false =>
        exact ⟨_, s.ask, raise_ignoresCrcFlt .hardwareUnavailable {}, fun c v => by simp [configure, hses, hid, ha]⟩
      | true => exact ⟨_, _, complete_ignoresCrcFlt {}, fun c v => by simp [configure, hses, hid, ha]; rfl⟩

/-- An operation that is no CRC operation ignores `CRC` and `FLT`. -/
theorem exec_ignoresCrcFlt {i : Instr} (hi : i ≠ .crcInit) (hd : i.crcData = none) :
    ∃ op, IgnoresCrcFlt op ∧ ∀ s, exec i s = .next (op s) := by
  cases i with
  | crcInit => exact absurd rfl hi
  | crcByte => cases hd
  | enc | decPay | decFrm => exact ⟨_, complete_ignoresCrcFlt _, fun _ => rfl⟩
  | align raw => exact ⟨_, completeOfCfg_ignoresCrcFlt fun c => { payload := some (strip c raw) }, fun _ => rfl⟩
  | decCap raw =>
    exact ⟨_, completeOfCfg_ignoresCrcFlt fun c => decoded (strip c raw) { payload := some (strip c raw) },
      fun _ => rfl⟩
  | cfg idin => exact ⟨_, configure_ignoresCrcFlt idin, fun _ => rfl⟩
  | pwr | cooler | warmer | higher | lower | rset => exact ⟨_, send1_ignoresCrcFlt _ _ _, fun _ => rfl⟩
  | lvlLoA | lvlHiA | lvlLoB | lvlHiB | setc | seti => exact ⟨_, send2_ignoresCrcFlt _ _ _ _, fun _ => rfl⟩

/-- What an operation that ignores the two registers does to them. -/
theorem IgnoresCrcFlt.at_self {op : State → State} (h : IgnoresCrcFlt op) (s : State) :
    ∃ bits, (op s).crc = s.crc ∧ (op s).flt = s.flt ||| bits ∧
      ∀ c v, op (withCrcFlt s c v) = withCrcFlt (op s) c (v ||| bits) := by
  obtain ⟨bits, hbits⟩ := h s
  have hself : op s = withCrcFlt (op s) s.crc (s.flt ||| bits) := hbits s.crc s.flt
  exact ⟨bits, (congrArg State.crc hself :), (congrArg State.flt hself :), hbits⟩

/-- Settles O13: every other operation ignores `CRC`. -/
theorem onlyCrcOperationsTouchTheRegister : Obligations.OnlyCrcOperationsTouchTheRegister := by
  intro i s t v hi hd h
  obtain ⟨op, hop, hexec⟩ := exec_ignoresCrcFlt hi hd
  obtain ⟨bits, hcrc, hflt, hbits⟩ := hop.at_self s
  rw [hexec] at h
  cases h
  refine ⟨hcrc, (hexec _).trans (congrArg _ ((hbits v s.flt).trans ?_))⟩
  rw [← hflt]
  rfl

/-- Settles O41: the CRC operations add no bit, and every other operation ignores `FLT`. -/
theorem noOperationReadsTheFaultBits : Obligations.NoOperationReadsTheFaultBits := by
  intro i s t v h
  have hother (hi : i ≠ .crcInit) (hd : i.crcData = none) : ∃ bits, t.flt = s.flt ||| bits ∧
      exec i { s with flt := v } = .next { t with flt := v ||| bits } := by
    obtain ⟨op, hop, hexec⟩ := exec_ignoresCrcFlt hi hd
    obtain ⟨bits, hcrc, hflt, hbits⟩ := hop.at_self s
    rw [hexec] at h
    cases h
    refine ⟨bits, hflt, (hexec _).trans (congrArg _ ((hbits s.crc v).trans ?_))⟩
    rw [← hcrc]
    rfl
  cases i with
  | crcInit | crcByte => cases h; exact ⟨0#8, BitVec.or_zero.symm, by rw [BitVec.or_zero]; rfl⟩
  | _ => exact hother nofun rfl

/-! ### The operations that need no session (R35, R125) -/

/-- An operation that needs no session, but `CFG`, completes with a response made of its operands, the parameters and
`CRC`, and writes `CRC` from `CRC` alone. -/
theorem exec_codec {i : Instr} (hi : i.isSession = false) (hcfg : ∀ idin, i ≠ .cfg idin) :
    ∃ (r : Config → BitVec 16 → Response) (c : BitVec 16 → BitVec 16),
      ∀ s, exec i s = .next (complete (r s.cfg s.crc) (s.setCrc (c s.crc))) := by
  cases i with
  | crcInit => exact ⟨fun _ _ => _, fun _ => crcInitValue, fun _ => rfl⟩
  | crcByte b => exact ⟨fun _ c => { crc := some (crcByte c b) }, fun c => crcByte c b, fun _ => rfl⟩
  | align raw => exact ⟨fun cfg _ => { payload := some (strip cfg raw) }, id, fun _ => rfl⟩
  | decCap raw =>
    exact ⟨fun cfg _ => decoded (strip cfg raw) { payload := some (strip cfg raw) }, id, fun _ => rfl⟩
  | enc | decPay | decFrm => exact ⟨fun _ _ => _, id, fun _ => rfl⟩
  | cfg idin => exact absurd rfl (hcfg idin)
  | pwr | cooler | warmer | higher | lower | rset => cases hi
  | lvlLoA | lvlHiA | lvlLoB | lvlHiB | setc | seti => cases hi

/-- Settles O24: what these operations answer and write is the same where the parameters and `CRC` are. -/
theorem codecIsIndependentOfTheSession : Obligations.CodecIsIndependentOfTheSession := by
  intro i s s' hi hcfg hc hcrc
  obtain ⟨r, c, hexec⟩ := exec_codec hi hcfg
  have hexec' := hexec s'
  rw [hc, hcrc] at hexec'
  exact ⟨_, _, _, _, hexec s, hexec', complete_eq (s.setCrc _) _, complete_eq (s'.setCrc _) _⟩

end Sys2Proof.Machine
end

section
/-! PROOFS. What the session operations send: each is `send1` of a code or `send2` of a pair, and these are the codes of
the tables. -/

namespace Sys2Proof.Machine

/-! ### Direct operations (R130 to R139) -/

/-- The clamped step, in the last words of rule R131. -/
theorem mag_eq_stepMagnitude (st : BitVec 8) : mag st = stepMagnitude st := by
  have hint := BitVec.toInt_eq_toNat_cond st
  unfold stepMagnitude
  rcases Nat.lt_or_ge st.toNat 0x80 with hpos | hneg
  · have hst : st.toInt = st.toNat := by omega
    rcases Nat.lt_or_ge 15 st.toNat with habove | hle
    · rw [mag_of_large (by omega), if_neg (by omega), if_pos (by omega)]
    · rw [mag_of_range (by omega) (by omega), if_pos hle, hst, Int.toNat_natCast]
  · have := st.isLt
    rw [mag_of_neg (by omega), if_neg (by omega), if_neg (by omega)]

/-- An operation that is `send1` of a command sends one frame with it. -/
theorem sendsOne_of_send1 {i : Instr} {c : Command} {x : Bool} {ctr : BitVec 8} {s : State} (hses : s.ses = true)
    (h : exec i s = .next (send1 c x ctr s)) : SendsOne i c x ctr s := by
  obtain ⟨oks, hsent⟩ := send1_sent hses c x ctr
  exact ⟨_, oks, h, hsent⟩

/-- Settles O29: each is `send1` of its code, with the clamped step in it. -/
theorem directOperationsSendOneFrame : Obligations.DirectOperationsSendOneFrame := by
  intro s st x ctr hses
  rw [← mag_eq_stepMagnitude]
  exact ⟨sendsOne_of_send1 hses rfl, sendsOne_of_send1 hses rfl, sendsOne_of_send1 hses rfl,
    sendsOne_of_send1 hses rfl, sendsOne_of_send1 hses rfl, sendsOne_of_send1 hses rfl⟩

/-! ### Composite operations (R150 to R159) -/

/-- An operation that is `send2` of a pair of commands sends two frames with them. -/
theorem sendsTwo_of_send2 {i : Instr} {c0 c1 : Command} {l : BitVec 8} {x : Bool} {ctr : BitVec 8} {s : State}
    (hses : s.ses = true) (hl : l.toNat ≤ 15) {c : Command × Command} (h : exec i s = .next (send2 c l x ctr s))
    (hc : c = (c0, c1)) : SendsTwo i c0 c1 x ctr s := by
  subst hc
  obtain ⟨oks0, oks1, hsent⟩ := send2_sent hses (c0, c1) hl x ctr
  exact ⟨_, oks0, oks1, h, hsent⟩

/-- The step down by `15 - L` (R150), counted up from its code at `L = 0`. -/
theorem stepDown_eq {l : BitVec 8} (hl : l.toNat ≤ 15) (base : Nat) (hbase : 15 ≤ base) :
    BitVec.ofNat 16 (base - (levelMax - l.toNat)) = BitVec.ofNat 16 (base - 15 + l.toNat) := by
  congr 1
  unfold levelMax
  omega

/-- Settles O30: each is `send2` of the pair of its algorithm. -/
theorem levelOperationsSaturateThenStep : Obligations.LevelOperationsSaturateThenStep := by
  intro s l x ctr hses hl
  refine ⟨sendsTwo_of_send2 hses hl rfl rfl, sendsTwo_of_send2 hses hl rfl ?_, sendsTwo_of_send2 hses hl rfl rfl,
    sendsTwo_of_send2 hses hl rfl ?_⟩
  · exact Prod.ext rfl (stepDown_eq hl 0x300 (by decide))
  · exact Prod.ext rfl (stepDown_eq hl 0x500 (by decide))

/-- Settles O31: `SETI` is `send2` of the pair of the nearer extreme, which for each of the sixteen levels is the
table's. -/
theorem setIntensitySendsItsPair : Obligations.SetIntensitySendsItsPair := by
  intro s l x ctr hses hl
  refine sendsTwo_of_send2 hses hl rfl ?_
  revert l
  decide

/-- Settles O32: `SETC` is the same on the other dimension (D15). -/
theorem setColorSendsItsPair : Obligations.SetColorSendsItsPair := by
  intro s l x ctr hses hl
  refine sendsTwo_of_send2 hses hl rfl ?_
  revert l
  decide

/-! ### The frames of a composite operation (R151, R233, R234) -/

/-- A composite operation at a legal level logs its two frames, on consecutive counters. -/
theorem send2_frameLog {s : State} (hses : s.ses = true) (c : Command × Command) {l : BitVec 8} (hl : l.toNat ≤ 15)
    (x : Bool) (ctr : BitVec 8) :
    (send2 c l x ctr s).frameLog = s.frameLog ++ [frame s.did c.1 (if x then ctr else s.seq),
      frame s.did c.2 ((if x then ctr else s.seq) + 1)] := by
  obtain ⟨oks0, oks1, hsent⟩ := send2_sent hses c hl x ctr
  exact hsent.frameLog

theorem send1_frameLog {s : State} (hses : s.ses = true) (c : Command) (x : Bool) (ctr : BitVec 8) :
    (send1 c x ctr s).frameLog = s.frameLog ++ [frame s.did c (if x then ctr else s.seq)] := by
  obtain ⟨oks, hsent⟩ := send1_sent hses c x ctr
  exact hsent.frameLog

/-- Settles O35: the counter stands in bits 39 to 32 of each frame. -/
theorem compositeFramesHaveConsecutiveCounters : Obligations.CompositeFramesHaveConsecutiveCounters := by
  intro s t i l hlevel hses hl h
  obtain ⟨c, hexec⟩ := exec_of_level hlevel
  rw [hexec] at h
  cases h
  refine ⟨_, _, send2_frameLog hses c hl _ _, by rw [frame_counter], ?_⟩
  rw [frame_counter, frame_counter, BitVec.toNat_add]
  rfl

/-! ### Saturation codes (R160, R233) -/

/-- The four codes of magnitude 16. -/
abbrev SaturationCode (c : Command) : Prop := c.toNat ∈ [0x02F0, 0x0210, 0x04F0, 0x0410]

/-- A code of a clamped magnitude is none of them. -/
theorem not_saturationCode_code (k : CodeKind) {m : Nat} (hm : m ≤ 15) : ¬ SaturationCode (code k m) := by
  cases k <;> simp [SaturationCode, code] <;> omega

/-- The codes of magnitude 16 of either dimension are. -/
theorem saturationCode_down (d : Dimension) : SaturationCode (code d.down satMag) := by cases d <;> decide

theorem saturationCode_up (d : Dimension) : SaturationCode (code d.up satMag) := by cases d <;> decide

/-- The codes of a pair: the first of magnitude 16, the second of a clamped one. -/
theorem saturation_fromLow (d : Dimension) {l : BitVec 8} (hl : l.toNat ≤ 15) :
    SaturationCode (fromLow d l).1 ∧ ¬ SaturationCode (fromLow d l).2 :=
  ⟨saturationCode_down d, not_saturationCode_code _ hl⟩

theorem saturation_fromHigh (d : Dimension) (l : BitVec 8) :
    SaturationCode (fromHigh d l).1 ∧ ¬ SaturationCode (fromHigh d l).2 :=
  ⟨saturationCode_up d, not_saturationCode_code _ (Nat.sub_le ..)⟩

theorem saturation_fromNearer (d : Dimension) {l : BitVec 8} (hl : l.toNat ≤ 15) :
    SaturationCode (fromNearer d l).1 ∧ ¬ SaturationCode (fromNearer d l).2 := by
  unfold fromNearer
  split
  · exact saturation_fromLow d hl
  · exact saturation_fromHigh d l

/-- A direct operation is `send1` of a code that is no saturation code. -/
theorem exec_of_direct {i : Instr} (hi : i.isSession = true) (hlevel : i.level = none) :
    ∃ c x ctr, ¬ SaturationCode c ∧ ∀ s, exec i s = .next (send1 c x ctr s) := by
  cases i with
  | crcInit | crcByte | align | enc | decCap | decPay | decFrm | cfg => cases hi
  | lvlLoA | lvlHiA | lvlLoB | lvlHiB | setc | seti => cases hlevel
  | pwr | rset => exact ⟨_, _, _, not_saturationCode_code _ (Nat.zero_le _), fun _ => rfl⟩
  | cooler | warmer | higher | lower => exact ⟨_, _, _, not_saturationCode_code _ (mag_le _), fun _ => rfl⟩

/-- A composite operation at a legal level is `send2` of a saturation code and one that is none. -/
theorem exec_of_composite {i : Instr} {l : BitVec 8} (hlevel : i.level = some l) (hl : l.toNat ≤ 15) :
    ∃ c x ctr, (SaturationCode c.1 ∧ ¬ SaturationCode c.2) ∧ ∀ s, exec i s = .next (send2 c l x ctr s) := by
  cases i with
  | crcInit | crcByte | align | enc | decCap | decPay | decFrm | cfg => cases hlevel
  | pwr | cooler | warmer | higher | lower | rset => cases hlevel
  | lvlLoA | lvlLoB => cases hlevel; exact ⟨_, _, _, saturation_fromLow _ hl, fun _ => rfl⟩
  | lvlHiA | lvlHiB => cases hlevel; exact ⟨_, _, _, saturation_fromHigh _ _, fun _ => rfl⟩
  | setc | seti => cases hlevel; exact ⟨_, _, _, saturation_fromNearer _ hl, fun _ => rfl⟩

/-- Settles O36: the command stands in bits 31 to 16 of each frame. -/
theorem saturationCodesOnlyLeadComposites : Obligations.SaturationCodesOnlyLeadComposites := by
  intro s t i hi hses h saturation
  have hcommand (c : Command) (k : BitVec 8) : saturation (frame s.did c k) ↔ SaturationCode c := by
    simp only [saturation, frame_command]
  refine ⟨fun hlevel => ?_, fun l hlevel hl => ?_⟩
  · obtain ⟨c, x, ctr, hc, hexec⟩ := exec_of_direct hi hlevel
    rw [hexec] at h
    cases h
    exact ⟨_, send1_frameLog hses c x ctr, (hcommand ..).not.mpr hc⟩
  · obtain ⟨c, x, ctr, ⟨h0, h1⟩, hexec⟩ := exec_of_composite hlevel hl
    rw [hexec] at h
    cases h
    exact ⟨_, _, send2_frameLog hses c hl x ctr, (hcommand ..).mpr h0, (hcommand ..).not.mpr h1⟩

end Sys2Proof.Machine
end
